-- ==== Sys2Proof/Word.lean ====
section
/-! DEFINITION. The byte of the serial links and of the preset memory. -/

namespace Sys2Proof

/-- A byte of a frame (R179) or of preset memory (R153). Every other quantity of the spec is an
integer in a stated range and is a `Nat`, or an `Int` where it is signed. -/
abbrev Byte := BitVec 8

end Sys2Proof
end

