-- ==== Sys2Proof/Config.lean ====
section
/-! DEFINITION. The fixed numbers of the part and its one free value. -/

namespace Sys2Proof.Config

/-- FREE VALUE. The spec fixes no order among timers that run down in the same millisecond; this
number, taken modulo how many are due, picks the one whose expiry is taken. It is applied to the
counter `State.freeCount`, which each use advances. DESIGN CHOICE in its form only (log 2): no
statement can rest on its value. -/
opaque dueOrder : Nat → Nat

/-- The gap timer's duration in ms (R180). -/
def gapTime : Nat := 2

/-- The greatest value of a 32-bit stamp counter (R20, R130). -/
def stampMax : Nat := 4294967295

/-- The greatest value of a two-byte quantity. -/
def max16 : Nat := 65535

/-- The greatest fill of bin 4 and the greatest volume counter, in litres (R66, R163). -/
def volumeMax : Nat := 16777215

end Sys2Proof.Config
end

