-- ==== Sys2Proof/Syntax.lean ====
section
/-! DEFINITION. The commands of the block: one constructor of `Instr` for each row of
spec/opcode_table.json, with the operands the row's rule gives it. Operand numbers are `Nat`
(WellFormed.lean bounds them by the width R179 sends them in); lines, valves and ports are finite
types. A flag or a presence byte of a request is kept as the number sent, since a byte that is
neither 0 nor 1 is refused by the owning rule (R179). -/

namespace Sys2Proof

/-- The ten ports of the link interface (chapter 10): eight cell ports, the station port, the
receive-only sample port. -/
inductive Port where
  | cell (c : Fin 8)
  | station
  | sample
  deriving DecidableEq, Repr

/-- The two supply valves of a cell (chapter 7). -/
inductive ValveKind where
  | flood
  | hp
  deriving DecidableEq, Repr

/-- The trunk configuration record (R2). -/
structure TrunkConfig where
  /-- L, flights on the carrying run. -/
  carry : Nat
  /-- N_belt, flights on the belt loop. -/
  beltLength : Nat
  /-- routing lead D. -/
  routingLead : Nat
  /-- gate lead W. -/
  gateLead : Nat
  flushOffset : Nat
  tolerance : Nat
  overloadLimit : Nat
  overloadSets : Nat
  flightCapacity : Nat
  /-- pitch period in ms. -/
  pitchPeriod : Nat
  deriving DecidableEq, Repr

/-- A cell's configuration record (R164); `enabled` is the flag byte as sent. -/
structure CellConfigWrite where
  enabled : Nat
  outletOffset : Nat
  closeTime : Nat
  floodMax : Nat
  hpMax : Nat
  floor : Nat
  linkTimeout : Nat
  deriving DecidableEq, Repr

/-- The grant arbiter's supply record (R123). -/
structure SupplyConfig where
  settleTime : Nat
  hpLow : Nat
  floodLow : Nat
  deriving DecidableEq, Repr

/-- A filter unit's configuration record (R89); `flushTime` is in seconds. -/
structure UnitConfig where
  ratedFlow : Nat
  dpClean : Nat
  dpMax : Nat
  dpFlush : Nat
  flushTime : Nat
  deriving DecidableEq, Repr

/-- The sludge settings (R90). -/
structure SludgeSettings where
  flights : Nat
  volume : Nat
  closeTime : Nat
  deriving DecidableEq, Repr

/-- The tank configuration record (R106). -/
structure TankConfig where
  cleanArea : Nat
  dirtyArea : Nat
  vLow : Nat
  vLowLow : Nat
  vDirtyHigh : Nat
  horizon : Nat
  margin : Nat
  deriving DecidableEq, Repr

/-- The delivery configuration record (R49). -/
structure DeliveryConfig where
  capacity : Vector Nat 5
  jamThreshold : Nat
  jamSets : Nat
  untrackedAllowance : Nat
  reverseTime : Nat
  probeTime : Nat
  routingTime : Nat
  deriving DecidableEq, Repr

/-- One channel's span (R76). -/
structure Span where
  lo : Nat
  hi : Nat
  deriving DecidableEq, Repr

/-- The sensor configuration record (R76); the two auto-clear settings are bytes as sent. -/
structure SensorConfigWrite where
  spans : Vector Span 14
  staleness : Nat
  cleanTolerance : Nat
  dirtyTolerance : Nat
  cleanAutoClear : Nat
  dirtyAutoClear : Nat
  deriving DecidableEq, Repr

/-- A recipe record as WRITE_RECIPE sends it (R150): `mode` is 0 CRUSH or 1 BYPASS, `hpPermitted`
a flag byte. -/
structure RecipeWrite where
  bin : Nat
  mode : Nat
  purge : Nat
  jamAllowance : Nat
  hpPermitted : Nat
  maxFlights : Nat
  deriving DecidableEq, Repr

/-- The definition of a profile as WRITE_PROFILE sends it (R155). -/
structure ProfileWrite where
  group : Nat
  recipeIndex : Nat
  priority : Nat
  keep : Nat
  presets : Nat
  presetStart : Nat
  flood : Nat
  hp : Nat
  aux : Vector Byte 8
  deriving DecidableEq, Repr

/-- A sample set: fourteen readings and fourteen validity flags (R75, R182). -/
structure SampleSet where
  readings : Vector Nat 14
  valid : Vector Bool 14
  deriving DecidableEq, Repr

/-- The commands, one constructor per row of spec/opcode_table.json. A request's first operand is
the port its frame arrives on; a read's last operand is its segment number (R185). -/
inductive Instr where
  | powerOn
  | pitchEvent
  | homeMark
  | sampleSet (set : SampleSet)
  | stalenessTimerExpiry
  | reverseTimerExpiry
  | probeTimerExpiry
  | drainTimerExpiry
  | routingSettledChange (level : Bool)
  | routingMove
  | routingTimerExpiry
  | binPresentChange (bin : Fin 5) (level : Bool)
  | gateClosedChange (outlet : Fin 9) (level : Bool)
  | gateTimerExpiry (outlet : Fin 9)
  | heldSludgeRequestTakenUp
  | flushDone (unit : Fin 6) (level : Bool)
  | flushTimerExpiry (unit : Fin 6)
  | settleTimerExpiry (cell : Fin 8) (kind : ValveKind)
  | stepTimerExpiry
  | linkTimerExpiry (cell : Fin 8)
  | gapTimerExpiry (port : Port)
  | frameDropped (port : Port) (bytes : List Byte)
  | frameSent (port : Port)
  | unknownRequest (port : Port) (code : Byte)
  | startJob (port : Port) (profile : Nat)
  | endJob (port : Port)
  | pause (port : Port)
  | continueJob (port : Port)
  | setFlood (port : Port) (flow : Nat)
  | setHp (port : Port) (flow : Nat)
  | discharge (port : Port) (flights volume notify : Nat)
  | dischargeEnd (port : Port) (presence volume : Nat)
  | query (port : Port)
  | commission (port : Port)
  | decommission (port : Port)
  | restart (port : Port)
  | writeTrunkConfig (port : Port) (config : TrunkConfig)
  | writeCellConfig (port : Port) (target : Nat) (config : CellConfigWrite)
  | writeCellConfigSupply (port : Port) (config : SupplyConfig)
  | writeFilterConfig (port : Port) (target : Nat) (config : UnitConfig)
  | writeFilterConfigSludge (port : Port) (config : SludgeSettings)
  | writeTankConfig (port : Port) (config : TankConfig)
  | writeBinConfig (port : Port) (config : DeliveryConfig)
  | writeSensorConfig (port : Port) (config : SensorConfigWrite)
  | writeGroup (port : Port) (group base count : Nat)
  | writeRecipe (port : Port) (recipe : Nat) (config : RecipeWrite)
  | writePresets (port : Port) (start : Nat) (run : List Byte)
  | writeProfile (port : Port) (profile : Nat) (config : ProfileWrite)
  | eraseProfile (port : Port) (profile : Nat)
  | filterOffline (port : Port) (unit : Nat)
  | filterOnline (port : Port) (unit : Nat)
  | forceFlush (port : Port) (unit : Nat)
  | binRelease (port : Port) (bin : Nat)
  | binRestore (port : Port) (bin fill : Nat)
  | crusherCleared (port : Port)
  | clearGate (port : Port) (outlet : Nat)
  | trunkStop (port : Port)
  | trunkRun (port : Port)
  | clearSupplyFault (port : Port) (which : Nat)
  | setMasks (port : Port) (range invalid overflow depleted : Nat)
  | clearExceptions (port : Port) (selection : Nat)
  | clearPair (port : Port) (pair : Nat)
  | setAlertEnables (port : Port) (enables : Vector Nat 15)
  | clearAlerts (port : Port) (selection : Nat)
  | readCell (port : Port) (cell segment : Nat)
  | readLots (port : Port) (lot segment : Nat)
  | readMap (port : Port) (start count segment : Nat)
  | readFilter (port : Port) (segment : Nat)
  | readBalance (port : Port) (segment : Nat)
  | readBins (port : Port) (segment : Nat)
  | readProfile (port : Port) (profile part start segment : Nat)
  | readRecipe (port : Port) (kind number segment : Nat)
  | readPorts (port : Port) (clear segment : Nat)
  | onBehalf (port : Port) (cell : Nat) (inner : List Byte)
  | receivedByte (port : Port) (byte : Byte)
  deriving DecidableEq, Repr

end Sys2Proof
end

