-- ==== Sys2Proof/Machine/State.lean ====
section
/-! DEFINITION. The state of the block: every register, table, queue, counter, mode and line the
spec gives it, the queue of waiting commands, and the state after power-on. -/

namespace Sys2Proof.Machine

/-! ### Shared small types -/

/-- A timer: stopped, or running with its remaining time in ms. -/
inductive Timer where
  | stopped
  | running (ms : Nat)
  deriving DecidableEq, Repr

/-- The drain timer, which can also be paused (R54). -/
inductive DrainTimer where
  | stopped
  | running (ms : Nat)
  | paused (ms : Nat)
  deriving DecidableEq, Repr

/-- The part state (R191). -/
inductive PartState where
  | config
  | operating
  deriving DecidableEq, Repr

/-- The mode of a routing position (R61, R150). -/
inductive Mode where
  | crush
  | bypass
  deriving DecidableEq, Repr

/-- A routing target or routing position: a bin and a mode. -/
structure Target where
  bin : Fin 5
  mode : Mode
  deriving DecidableEq, Repr

/-- A lot's source: a cell, or FLUSH (R20). -/
inductive Source where
  | cell (c : Fin 8)
  | flush
  deriving DecidableEq, Repr

/-! ### Trunk tracker (chapter 1) -/

/-- A flight's state with its lot id where it has one (R1). -/
inductive Flight where
  | empty
  | reserved (lot : Fin 32)
  | loaded (lot : Fin 32)
  | untracked
  deriving DecidableEq, Repr

/-- The six halt reasons (section 1.5). -/
inductive HaltReason where
  | station
  | jam
  | blocked
  | routing
  | bin
  | overload
  deriving DecidableEq, Repr

/-- The halt-reason set: each reason present or absent (R14). -/
structure HaltSet where
  station : Bool
  jam : Bool
  blocked : Bool
  routing : Bool
  bin : Bool
  overload : Bool
  deriving DecidableEq, Repr

/-- The trunk tracker's state. `registration` is whether the REGISTRATION source is active (R13). -/
structure Trunk where
  map : Vector Flight 256
  head : Nat
  belt : Nat
  registered : Bool
  halt : HaltSet
  overloadCount : Nat
  registration : Bool
  config : TrunkConfig
  deriving DecidableEq, Repr

/-! ### Intake arbiter and outlet gates (chapter 2) -/

/-- The eight states of a lot (R21), in the order of its table. -/
inductive LotState where
  | pending
  | reserved
  | loading
  | inTransit
  | delivered
  | cancelled
  | lost
  | removed
  deriving DecidableEq, Repr

/-- A lot's rank (R20). -/
inductive Rank where
  | service
  | priority (p : Nat)
  deriving DecidableEq, Repr

/-- A lot record (R20). -/
structure Lot where
  source : Source
  flights : Nat
  declared : Nat
  actual : Option Nat
  target : Target
  purge : Nat
  jamAllowance : Nat
  rank : Rank
  stamp : Nat
  notify : Bool
  state : LotState
  mixed : Bool
  short : Bool
  spilledInto : Bool
  contaminated : Bool
  firstEntered : Bool
  deriving DecidableEq, Repr

/-- A sludge request not yet made into a lot (R44). -/
structure SludgeRequest where
  flights : Nat
  volume : Nat
  deriving DecidableEq, Repr

/-- The intake arbiter's state. -/
structure Intake where
  lots : Vector (Option Lot) 32
  stamp : Nat
  held : Option SludgeRequest
  deriving DecidableEq, Repr

/-- The states of an outlet gate (chapter 2). -/
inductive GateState where
  | closed
  | isOpen
  | closing
  | fault
  deriving DecidableEq, Repr

/-- An outlet record (chapter 2). -/
structure Outlet where
  gate : GateState
  timer : Timer
  spill : Bool
  closeTime : Nat
  deriving DecidableEq, Repr

/-! ### Crusher, routing and bins (chapter 3) -/

/-- The crusher's states (R50). -/
inductive CrusherState where
  | running
  | reversing
  | probing
  | blocked
  deriving DecidableEq, Repr

/-- An entry of the resident list (R52). -/
structure Resident where
  lot : Fin 32
  entered : Nat
  crusherPath : Bool
  position : Target
  stalled : Bool
  deriving DecidableEq, Repr

/-- The crusher unit's state. -/
structure Crusher where
  state : CrusherState
  residents : List Resident
  untracked : Bool
  allowance : Nat
  drain : DrainTimer
  reverse : Timer
  probe : Timer
  jamCount : Nat
  deriving DecidableEq, Repr

/-- The routing states (R61). -/
inductive RoutingState where
  | settled
  | moving
  | fault
  deriving DecidableEq, Repr

/-- The routing unit's state. -/
structure Routing where
  position : Target
  state : RoutingState
  timer : Timer
  deriving DecidableEq, Repr

/-- The states of a bin (R66). -/
inductive BinState where
  | inService
  | full
  | closing
  | released
  | absent
  | presentWait
  deriving DecidableEq, Repr

/-- A bin record (R66). Its capacity stands once, in the delivery configuration (R49). -/
structure Bin where
  state : BinState
  fill : Nat
  committed : Nat
  unexpected : Bool
  deriving DecidableEq, Repr

/-! ### Sample receiver (chapter 4) -/

/-- The range state of a channel (section 4.2). -/
inductive RangeState where
  | noValue
  | inRange
  | outOfRange
  deriving DecidableEq, Repr

/-- A channel record (section 4.2). -/
structure Channel where
  value : Nat
  held : Bool
  range : RangeState
  deriving DecidableEq, Repr

/-- The state of a probe pair (section 4.3). -/
inductive PairState where
  | agree
  | disagree
  deriving DecidableEq, Repr

/-- Which probes the last set let a pair use (section 4.3). -/
inductive PairMode where
  | both
  | singleA
  | singleB
  | none
  deriving DecidableEq, Repr

/-- A pair record (section 4.3). -/
structure Pair where
  state : PairState
  used : Nat
  held : Bool
  mode : PairMode
  count : Nat
  seen : Bool
  maxDiff : Nat
  deriving DecidableEq, Repr

/-- The sensor configuration record (R76). -/
structure SensorConfig where
  spans : Vector Span 14
  staleness : Nat
  cleanTolerance : Nat
  dirtyTolerance : Nat
  cleanAutoClear : Bool
  dirtyAutoClear : Bool
  deriving DecidableEq, Repr

/-- The sample receiver's state. -/
structure Samples where
  lastSet : SampleSet
  channels : Vector Channel 14
  clean : Pair
  dirty : Pair
  stale : Bool
  timer : Timer
  config : SensorConfig
  deriving DecidableEq, Repr

/-! ### Filter bank (chapter 5) -/

/-- The states of a filter unit (R88). -/
inductive UnitState where
  | offline
  | online
  | flushWait
  | flushReady
  | flushing
  | fault
  deriving DecidableEq, Repr

/-- A filter unit's record. -/
structure FilterUnit where
  state : UnitState
  forced : Bool
  postCheck : Bool
  timer : Timer
  config : UnitConfig
  deriving DecidableEq, Repr

/-- The outcome of a selection attempt (R94). -/
inductive CheckOutcome where
  | exempt
  | passed
  | failed
  | hold
  deriving DecidableEq, Repr

/-- The last check record (R94). -/
structure LastCheck where
  unit : Fin 6
  outcome : CheckOutcome
  headroom : Option Int
  deriving DecidableEq, Repr

/-- The filter bank controller's state. `begun` says of each lot id whether it is among the begun
sludge lots. -/
structure FilterBank where
  units : Vector FilterUnit 6
  slot : Option (Fin 6)
  begun : Vector Bool 32
  lastCheck : Option LastCheck
  sludge : SludgeSettings
  deriving DecidableEq, Repr

/-! ### Balance unit (chapter 6) -/

/-- The balance record: the results of the last evaluation (R110 to R116). -/
structure BalanceRecord where
  avail : Vector Nat 6
  primary : Nat
  polish : Nat
  vClean : Nat
  vDirty : Nat
  cleanPart : Int
  dirtyPart : Int
  credit : Int
  total : Nat
  sumFlood : Nat
  sumHp : Nat
  hTotal : Int
  hPolish : Int
  deficit : Bool
  polishBound : Bool
  heldInput : Bool
  deriving DecidableEq, Repr

/-- One Boolean for each of the four exceptions (R117). -/
structure Exceptions where
  range : Bool
  invalid : Bool
  overflow : Bool
  depleted : Bool
  deriving DecidableEq, Repr

/-- The balance unit's state. `masked` is true of a masked exception. -/
structure Balance where
  record : BalanceRecord
  evalCount : Nat
  sticky : Exceptions
  masked : Exceptions
  hold : Bool
  markers : Vector Bool 8
  config : TankConfig
  deriving DecidableEq, Repr

/-! ### Grant arbiter (chapter 7) -/

/-- The origin of a pending request (R130). -/
inductive Origin where
  | request
  | restore
  deriving DecidableEq, Repr

/-- Why a request last failed to be served in full (R130). -/
inductive Bound where
  | total
  | polish
  | hold
  | shed
  | lowlow
  deriving DecidableEq, Repr

/-- A pending grant request (R130). -/
structure PendingRequest where
  value : Nat
  stamp : Nat
  origin : Origin
  bound : Bound
  deriving DecidableEq, Repr

/-- A valve record (R124). -/
structure Valve where
  commanded : Nat
  counted : Nat
  pending : Option PendingRequest
  timer : Timer
  deriving DecidableEq, Repr

/-- The two valves of a cell. -/
structure CellValves where
  flood : Valve
  hp : Valve
  deriving DecidableEq, Repr

/-- The states of the shed operation (R135). -/
inductive ShedState where
  | idle
  | settling
  | exhausted
  deriving DecidableEq, Repr

/-- The phases of a shed step (R136). -/
inductive Phase where
  | a
  | b
  | c
  deriving DecidableEq, Repr

/-- The current step of the shed operation (R135). -/
structure ShedStep where
  cell : Fin 8
  kind : ValveKind
  phase : Phase
  before : Nat
  value : Nat
  deriving DecidableEq, Repr

/-- The shed operation record (R135). -/
structure Shed where
  state : ShedState
  stepCount : Nat
  current : Option ShedStep
  timer : Timer
  deriving DecidableEq, Repr

/-- The grant arbiter's state. -/
structure Grants where
  valves : Vector CellValves 8
  shed : Shed
  stamp : Nat
  lowlow : Bool
  hpFault : Bool
  hpCount : Nat
  floodFault : Bool
  floodCount : Nat
  supply : SupplyConfig
  deriving DecidableEq, Repr

/-! ### Recipe and profile stores (chapter 8) -/

/-- An entry of the group table (R149). -/
structure Group where
  base : Nat
  count : Nat
  deriving DecidableEq, Repr

/-- A recipe record (R150); its bin is 0 to 3. -/
structure Recipe where
  bin : Fin 4
  mode : Mode
  purge : Nat
  jamAllowance : Nat
  hpPermitted : Bool
  maxFlights : Nat
  deriving DecidableEq, Repr

/-- The recipe store's state. -/
structure RecipeStore where
  groups : Vector Group 16
  recipes : Vector Recipe 128
  deriving DecidableEq, Repr

/-- One half of a profile (R152). -/
structure Half where
  flood : Nat
  hp : Nat
  lots : Nat
  volume : Nat
  aux : Vector Byte 8
  deriving DecidableEq, Repr

/-- A defined profile (R152). -/
structure Profile where
  group : Fin 16
  recipeIndex : Nat
  priority : Nat
  keep : Bool
  presetStart : Option Nat
  initial : Half
  save : Half
  saveValid : Bool
  owner : Option (Fin 8)
  deriving DecidableEq, Repr

/-- An entry of the extent table: first and last address (R154). -/
structure Extent where
  first : Nat
  last : Nat
  deriving DecidableEq, Repr

/-- The profile store's state. `memory` is the preset memory in the canonical form of `Memory.wf`. -/
structure ProfileStore where
  profiles : Vector (Option Profile) 64
  memory : List Host.Cell
  extents : Vector (Option Extent) 64
  deriving DecidableEq, Repr

/-! ### Cell context unit (chapter 9) -/

/-- A cell's configuration record (R164). -/
structure CellConfig where
  enabled : Bool
  outletOffset : Nat
  closeTime : Nat
  floodMax : Nat
  hpMax : Nat
  floor : Nat
  linkTimeout : Nat
  deriving DecidableEq, Repr

/-- The states of a cell (R163). -/
inductive CellState where
  | disabled
  | idle
  | running
  | paused
  deriving DecidableEq, Repr

/-- The states of a cell's link (R163). -/
inductive LinkState where
  | unlinked
  | linked
  | lost
  deriving DecidableEq, Repr

/-- The working values of the job in hand (R163). -/
structure Working where
  flood : Nat
  hp : Nat
  lots : Nat
  volume : Nat
  deriving DecidableEq, Repr

/-- The derived job facts (R151). -/
structure JobFacts where
  target : Target
  purge : Nat
  jamAllowance : Nat
  hpPermitted : Bool
  maxFlights : Nat
  priority : Nat
  deriving DecidableEq, Repr

/-- A cell record (R163), with the link timer its port has (R165). -/
structure CellRecord where
  config : CellConfig
  state : CellState
  link : LinkState
  linkTimer : Timer
  restored : Bool
  active : Option (Fin 64)
  stack : List (Fin 64)
  working : Working
  aux : Vector Byte 8
  facts : Option JobFacts
  deriving DecidableEq, Repr

/-! ### Link interface (chapter 10) -/

/-- The refusal reasons, in the order of the code table (section 10.6). -/
inductive Reason where
  | notReady
  | authority
  | disabled
  | noProfile
  | inUse
  | stackFull
  | noRecipe
  | bounds
  | noJob
  | lotOpen
  | busy
  | lotsFull
  | gateFault
  | hpBarred
  | hpFault
  | sequence
  | badValue
  | badPreset
  | badConfig
  | unknownRequest
  deriving DecidableEq, Repr

/-- A reply's status, with the bound of WAITING and the reason of REFUSED (R184). -/
inductive Verdict where
  | accepted
  | adjusted
  | reduced
  | waiting (bound : Bound)
  | refused (reason : Reason)
  deriving DecidableEq, Repr

/-- A reply: the code answered, the verdict (bytes 1 and 2) and the body (R184). -/
structure Reply where
  code : Byte
  verdict : Verdict
  body : List Byte
  deriving DecidableEq, Repr

/-- The reasons of a GRANT notice (R146). -/
inductive GrantReason where
  | granted
  | restored
  | requested
  | shed
  | floodLost
  | lowlow
  | hpFault
  | linkLost
  | restart
  deriving DecidableEq, Repr

/-- A notice entry: the cell's grants, or a lot (R187). -/
inductive Notice where
  | grant (flood hp : Nat) (reason : GrantReason)
  | lot (id : Fin 32) (state : LotState) (mixed short spilledInto contaminated : Bool)
  deriving DecidableEq, Repr

/-- A frame being sent: its content is fixed when it begins (R187, R188). -/
inductive TxFrame where
  | reply (r : Reply)
  | notice (n : Notice)
  deriving DecidableEq, Repr

/-- A receiver's state with the bytes of the frame so far (R180). -/
inductive RxState where
  | hunt
  | inFrame (bytes : List Byte)
  deriving DecidableEq, Repr

/-- What the link interface holds for the receiving side of a port. -/
structure Receiver where
  state : RxState
  gap : Timer
  framingSeen : Bool
  wellFormed : Nat
  dropped : Nat
  deriving DecidableEq, Repr

/-- What the link interface holds for the sending side of a port; `sending` is absent in IDLE. -/
structure Transmitter where
  overrun : Bool
  replies : List Reply
  sending : Option TxFrame
  deriving DecidableEq, Repr

/-- The station port's read image (R185): the request code and fields that produced it and the
captured content. -/
structure ReadImage where
  code : Byte
  fields : List Byte
  content : List Byte
  deriving DecidableEq, Repr

/-- The link interface's state: receivers of cell ports 0 to 7, station, sample; transmitters of
cell ports 0 to 7 and station; notice queues of the cell ports. -/
structure Links where
  rx : Vector Receiver 10
  tx : Vector Transmitter 9
  notices : Vector (List Notice) 8
  image : Option ReadImage
  deriving DecidableEq, Repr

/-! ### Plant control and lines (chapter 11, chapter 0) -/

/-- The fifteen alert sources, in the order of the table of section 11.4. -/
inductive AlertSource where
  | shed
  | blocked
  | jam
  | gateFault
  | routingFault
  | bin
  | filterFault
  | pair
  | exception
  | linkLost
  | registration
  | samplesStale
  | hpSupply
  | floodSupply
  | overload
  deriving DecidableEq, Repr

/-- Plant control's alert enables and flags (R195). -/
structure Plant where
  enables : Vector Bool 15
  flags : Vector Bool 15
  deriving DecidableEq, Repr

/-- The levels of the input lines ("Links and lines"). -/
structure Inputs where
  gateClosed : Vector Bool 9
  routingSettled : Bool
  binPresent : Vector Bool 5
  flushDone : Vector Bool 6
  deriving DecidableEq, Repr

/-- The output lines ("Links and lines"). -/
structure Outputs where
  conveyorRun : Bool
  outletOpen : Vector Bool 9
  crusherForward : Bool
  crusherReverse : Bool
  routingPosition : Target
  binReleased : Vector Bool 5
  flushStart : Vector Bool 6
  floodSetpoint : Vector Nat 8
  hpSetpoint : Vector Nat 8
  aux : Vector (Vector Byte 8) 8
  alert : Bool
  deriving DecidableEq, Repr

/-! ### The state -/

/-- The whole state of the part. `pending` is the queue of waiting commands and `freeCount` the
model's own counter of free choices taken (log 2); the rest is the spec's. -/
structure State where
  part : PartState
  trunk : Trunk
  intake : Intake
  outlets : Vector Outlet 9
  crusher : Crusher
  routing : Routing
  delivery : DeliveryConfig
  bins : Vector Bin 5
  samples : Samples
  filter : FilterBank
  balance : Balance
  grants : Grants
  recipes : RecipeStore
  profiles : ProfileStore
  cells : Vector CellRecord 8
  links : Links
  plant : Plant
  inputs : Inputs
  outputs : Outputs
  pending : List Instr
  freeCount : Nat
  deriving DecidableEq, Repr

/-- The spec names no condition that stops the part, so no command raises a fault and this type has
no constructor. Safe: nothing is claimed of a fault. -/
inductive Fault where
  deriving DecidableEq, Repr

/-- The refusals of the model. -/
inductive Refusal where
  /-- Raised only by an arm of `exec` for a command that has no meaning yet. Safe: the model stops
  where the part goes on. No arm raises it. -/
  | notModelled (mnemonic : String)
  deriving DecidableEq, Repr

/-! ### Updates, one for each field -/

def State.withPart (s : State) (x : PartState) : State := { s with part := x }
def State.withTrunk (s : State) (x : Trunk) : State := { s with trunk := x }
def State.withIntake (s : State) (x : Intake) : State := { s with intake := x }
def State.withOutlets (s : State) (x : Vector Outlet 9) : State := { s with outlets := x }
def State.withCrusher (s : State) (x : Crusher) : State := { s with crusher := x }
def State.withRouting (s : State) (x : Routing) : State := { s with routing := x }
def State.withDelivery (s : State) (x : DeliveryConfig) : State := { s with delivery := x }
def State.withBins (s : State) (x : Vector Bin 5) : State := { s with bins := x }
def State.withSamples (s : State) (x : Samples) : State := { s with samples := x }
def State.withFilter (s : State) (x : FilterBank) : State := { s with filter := x }
def State.withBalance (s : State) (x : Balance) : State := { s with balance := x }
def State.withGrants (s : State) (x : Grants) : State := { s with grants := x }
def State.withRecipes (s : State) (x : RecipeStore) : State := { s with recipes := x }
def State.withProfiles (s : State) (x : ProfileStore) : State := { s with profiles := x }
def State.withCells (s : State) (x : Vector CellRecord 8) : State := { s with cells := x }
def State.withLinks (s : State) (x : Links) : State := { s with links := x }
def State.withPlant (s : State) (x : Plant) : State := { s with plant := x }
def State.withInputs (s : State) (x : Inputs) : State := { s with inputs := x }
def State.withOutputs (s : State) (x : Outputs) : State := { s with outputs := x }
def State.withPending (s : State) (x : List Instr) : State := { s with pending := x }
def State.withFreeCount (s : State) (x : Nat) : State := { s with freeCount := x }

/-! ### Power-on -/

/-- The target of untracked material and of MIXED lots, and the routing position at power-on. -/
def Target.reject : Target := ⟨4, .crush⟩

/-- The halt-reason set that holds STATION alone (R18, R19). -/
def HaltSet.stationOnly : HaltSet := ⟨true, false, false, false, false, false⟩

/-- R18, with the power-on values of R2. -/
def Trunk.powerOn : Trunk where
  map := Vector.replicate 256 .untracked
  head := 0
  belt := 0
  registered := false
  halt := .stationOnly
  overloadCount := 0
  registration := false
  config := ⟨64, 160, 2, 2, 4, 1, 65535, 3, 40, 1000⟩

/-- R48. -/
def Intake.powerOn : Intake := ⟨Vector.replicate 32 none, 0, none⟩

/-- R34, R48. -/
def Outlet.powerOn : Outlet := ⟨.closed, .stopped, false, 800⟩

/-- R73. -/
def Crusher.powerOn : Crusher := ⟨.running, [], false, 3, .stopped, .stopped, .stopped, 0⟩

/-- R73. -/
def Routing.powerOn : Routing := ⟨.reject, .moving, .stopped⟩

/-- The power-on values of R49. -/
def Delivery.powerOn : DeliveryConfig := ⟨Vector.replicate 5 1000, 65535, 2, 3, 2000, 1500, 3000⟩

/-- R73: PRESENT_WAIT where the bin-present input is high, ABSENT otherwise. -/
def Bin.powerOn (present : Bool) : Bin := ⟨if present then .presentWait else .absent, 0, 0, false⟩

/-- The top of each channel's quantity range (R75). -/
def channelTop : Vector Nat 14 :=
  #v[1000, 1000, 1000, 1000, 1000, 1000, 4000, 4000, 4000, 4000, 65535, 65535, 1000, 1000]

/-- The power-on and RESTART value of a channel record (R87). -/
def Channel.noReading : Channel := ⟨0, true, .noValue⟩

/-- The power-on and RESTART value of a pair record (R87). -/
def Pair.noReading : Pair := ⟨.agree, 0, true, .none, 0, false, 0⟩

/-- R87, with the power-on values of R76. -/
def Samples.powerOn : Samples where
  lastSet := ⟨Vector.replicate 14 0, Vector.replicate 14 false⟩
  channels := Vector.replicate 14 .noReading
  clean := .noReading
  dirty := .noReading
  stale := false
  timer := .running 500
  config := ⟨channelTop.map fun t => ⟨0, t⟩, 500, 10, 10, false, false⟩

/-- R104, with the power-on values of R89 and R90. -/
def FilterBank.powerOn : FilterBank where
  units := Vector.replicate 6 ⟨.offline, false, false, .stopped, ⟨0, 0, 1000, 1000, 300⟩⟩
  slot := none
  begun := Vector.replicate 32 false
  lastCheck := none
  sludge := ⟨2, 80, 800⟩

/-- The balance record before any evaluation (R122). -/
def BalanceRecord.zero : BalanceRecord :=
  ⟨Vector.replicate 6 0, 0, 0, 0, 0, 0, 0, 0, 0, 0, 0, 0, 0, false, false, false⟩

/-- No exception (R122). -/
def Exceptions.none : Exceptions := ⟨false, false, false, false⟩

/-- R122, with the power-on values of R106. -/
def Balance.powerOn : Balance where
  record := .zero
  evalCount := 0
  sticky := .none
  masked := ⟨true, false, true, true⟩
  hold := false
  markers := Vector.replicate 8 false
  config := ⟨1000, 1000, 0, 0, 400000, 600, 200⟩

/-- A valve at rest (R148). -/
def Valve.zero : Valve := ⟨0, 0, none, .stopped⟩

/-- R148, with the power-on values of R123. -/
def Grants.powerOn : Grants where
  valves := Vector.replicate 8 ⟨.zero, .zero⟩
  shed := ⟨.idle, 0, none, .stopped⟩
  stamp := 0
  lowlow := false
  hpFault := false
  hpCount := 0
  floodFault := false
  floodCount := 0
  supply := ⟨1500, 0, 0⟩

/-- R162, with the power-on values of R149 and R150. -/
def RecipeStore.powerOn : RecipeStore :=
  ⟨Vector.replicate 16 ⟨0, 0⟩, Vector.replicate 128 ⟨0, .crush, 15, 1, false, 1⟩⟩

/-- R162. -/
def ProfileStore.powerOn : ProfileStore :=
  ⟨Vector.replicate 64 none, [], Vector.replicate 64 none⟩

/-- Working values all 0 (R172, R177, R178). -/
def Working.zero : Working := ⟨0, 0, 0, 0⟩

/-- R177, with the power-on values of R164. -/
def CellRecord.powerOn (c : Fin 8) : CellRecord where
  config := ⟨false, 8 + 6 * c.1, 800, 0, 0, 0, 2000⟩
  state := .disabled
  link := .unlinked
  linkTimer := .stopped
  restored := false
  active := none
  stack := []
  working := .zero
  aux := Vector.replicate 8 0
  facts := none

/-- R190. -/
def Links.powerOn : Links where
  rx := Vector.replicate 10 ⟨.hunt, .stopped, false, 0, 0⟩
  tx := Vector.replicate 9 ⟨false, [], none⟩
  notices := Vector.replicate 8 []
  image := none

/-- R197: every enable off and every flag live; no source is active. -/
def Plant.powerOn : Plant := ⟨Vector.replicate 15 false, Vector.replicate 15 false⟩

/-- The output lines at power-on (R18, R48, R73, R104, R148, R177, R197). -/
def Outputs.powerOn : Outputs where
  conveyorRun := false
  outletOpen := Vector.replicate 9 false
  crusherForward := false
  crusherReverse := false
  routingPosition := .reject
  binReleased := Vector.replicate 5 false
  flushStart := Vector.replicate 6 false
  floodSetpoint := Vector.replicate 8 0
  hpSetpoint := Vector.replicate 8 0
  aux := Vector.replicate 8 (Vector.replicate 8 0)
  alert := false

/-- Every input line low: DESIGN CHOICE, the spec gives the lines no level at power-on (log 3). -/
def Inputs.low : Inputs :=
  ⟨Vector.replicate 9 false, false, Vector.replicate 5 false, Vector.replicate 6 false⟩

/-- The power-on state of every block (R191 and the power-on rules of the chapters) with the given
input levels, waiting commands and free counter, none of which power-on changes (log 25). -/
def State.powerOn (inputs : Inputs) (pending : List Instr) (freeCount : Nat) : State where
  part := .config
  trunk := .powerOn
  intake := .powerOn
  outlets := Vector.replicate 9 .powerOn
  crusher := .powerOn
  routing := .powerOn
  delivery := Delivery.powerOn
  bins := inputs.binPresent.map Bin.powerOn
  samples := .powerOn
  filter := .powerOn
  balance := .powerOn
  grants := .powerOn
  recipes := .powerOn
  profiles := .powerOn
  cells := Vector.ofFn CellRecord.powerOn
  links := .powerOn
  plant := .powerOn
  inputs := inputs
  outputs := .powerOn
  pending := pending
  freeCount := freeCount

/-- The part right after power-on, with every input line low and no command waiting. -/
def State.reset : State := .powerOn .low [] 0

end Sys2Proof.Machine
end

