-- ==== Sys2Proof/Machine/Ops.lean ====
section
/-! DEFINITION. The operations every block shares: tables, timers, preset memory, the halt-reason
set, flights of the carrying run, lot records, notices, valves. -/

namespace Sys2Proof.Machine

/-! ### Tables -/

/-- A table with one entry replaced. -/
def put {α : Type} {n : Nat} (v : Vector α n) (i : Fin n) (x : α) : Vector α n := v.set i.1 x i.2

/-- A table with one entry changed. -/
def change {α : Type} {n : Nat} (v : Vector α n) (i : Fin n) (f : α → α) : Vector α n :=
  put v i (f v[i])

/-- The list with `x` put before the first entry that does not go before it. -/
def insertBy {α : Type} (before : α → α → Bool) (x : α) : List α → List α
  | [] => [x]
  | y :: ys => if before x y then x :: y :: ys else y :: insertBy before x ys

/-- The list in the order of `before`. -/
def sortBy {α : Type} (before : α → α → Bool) : List α → List α
  | [] => []
  | x :: xs => insertBy before x (sortBy before xs)

/-! ### Timers -/

/-- Whether a timer runs. -/
def Timer.isRunning : Timer → Bool
  | .stopped => false
  | .running _ => true

/-- Whether a timer runs and has run down. -/
def Timer.isDue : Timer → Bool
  | .running 0 => true
  | _ => false

/-- A timer one millisecond later (log 1). -/
def Timer.tick : Timer → Timer
  | .stopped => .stopped
  | .running ms => .running (ms - 1)

/-- Whether the drain timer runs. -/
def DrainTimer.isRunning : DrainTimer → Bool
  | .running _ => true
  | _ => false

/-- Whether the drain timer runs and has run down. -/
def DrainTimer.isDue : DrainTimer → Bool
  | .running 0 => true
  | _ => false

/-- The drain timer one millisecond later (log 1). -/
def DrainTimer.tick : DrainTimer → DrainTimer
  | .running ms => .running (ms - 1)
  | t => t

/-- The drain timer paused, its remaining time kept (R54). -/
def DrainTimer.pause : DrainTimer → DrainTimer
  | .running ms => .paused ms
  | t => t

/-- The drain timer resumed from its remaining time (R54). -/
def DrainTimer.resume : DrainTimer → DrainTimer
  | .paused ms => .running ms
  | t => t

/-! ### Preset memory (R153, R157) -/

/-- The byte at an address; an unlisted address reads as 0, the power-on value of R162. -/
def Memory.read : List Host.Cell → Nat → Byte
  | [], _ => 0
  | (k, b) :: rest, a => if k = a then b else Memory.read rest a

/-- The memory with one byte written, in canonical form. -/
def Memory.write : List Host.Cell → Nat → Byte → List Host.Cell
  | [], a, b => if b = 0 then [] else [(a, b)]
  | (k, c) :: rest, a, b =>
    if a < k then (if b = 0 then (k, c) :: rest else (a, b) :: (k, c) :: rest)
    else if a = k then (if b = 0 then rest else (a, b) :: rest)
    else (k, c) :: Memory.write rest a b

/-- The memory with a run of bytes written from an address upward. -/
def Memory.writeRun : List Host.Cell → Nat → List Byte → List Host.Cell
  | m, _, [] => m
  | m, a, b :: bs => Memory.writeRun (Memory.write m a b) (a + 1) bs

/-- All listed addresses are at or above `lo`, strictly rising, with no byte 0. -/
def Memory.wfFrom (lo : Nat) : List Host.Cell → Bool
  | [] => true
  | (k, b) :: rest => decide (lo ≤ k) && decide (b ≠ 0) && Memory.wfFrom (k + 1) rest

/-- The canonical form: addresses strictly rising, no byte 0 listed. -/
def Memory.wf (m : List Host.Cell) : Bool := Memory.wfFrom 0 m

/-- The preset memory's size (chapter 8). -/
def presetSize : Nat := 512

/-! ### The halt-reason set (R14) -/

/-- Whether a reason is present. -/
def HaltSet.has (h : HaltSet) : HaltReason → Bool
  | .station => h.station
  | .jam => h.jam
  | .blocked => h.blocked
  | .routing => h.routing
  | .bin => h.bin
  | .overload => h.overload

/-- The set with a reason made present or absent (R14). -/
def HaltSet.set (h : HaltSet) (r : HaltReason) (b : Bool) : HaltSet :=
  match r with
  | .station => { h with station := b }
  | .jam => { h with jam := b }
  | .blocked => { h with blocked := b }
  | .routing => { h with routing := b }
  | .bin => { h with bin := b }
  | .overload => { h with overload := b }

/-- Whether the set is empty. -/
def HaltSet.isEmpty (h : HaltSet) : Bool :=
  !(h.station || h.jam || h.blocked || h.routing || h.bin || h.overload)

/-- A halt reason made present or absent. -/
def State.setHalt (s : State) (r : HaltReason) (b : Bool) : State :=
  s.withTrunk { s.trunk with halt := s.trunk.halt.set r b }

/-! ### Flights (R1) -/

/-- The map index of an offset: (h + d) mod 256. -/
def Trunk.index (t : Trunk) (d : Nat) : Fin 256 := ⟨(t.head + d) % 256, Nat.mod_lt _ (by decide)⟩

/-- The flight at an offset. -/
def Trunk.flight (t : Trunk) (d : Nat) : Flight := t.map[t.index d]

/-- The trunk with the flight at an offset replaced. -/
def Trunk.setFlight (t : Trunk) (d : Nat) (f : Flight) : Trunk :=
  { t with map := put t.map (t.index d) f }

/-- The offset of a map index: the carrying run holds those below L. -/
def Trunk.offsetOf (t : Trunk) (i : Fin 256) : Nat := (i.1 + (256 - t.head % 256)) % 256

/-- The trunk with every flight of the carrying run changed by `f`. -/
def Trunk.mapRun (t : Trunk) (f : Flight → Flight) : Trunk :=
  { t with map := Vector.ofFn fun i : Fin 256 =>
      if t.offsetOf i < t.config.carry then f t.map[i] else t.map[i] }

/-- The lot a flight names. -/
def Flight.lot? : Flight → Option (Fin 32)
  | .reserved x => some x
  | .loaded x => some x
  | _ => none

/-- The offsets of the carrying run whose flight names a lot, in rising order. -/
def Trunk.lotOffsets (t : Trunk) (id : Fin 32) : List Nat :=
  (List.range t.config.carry).filter fun d => (t.flight d).lot? == some id

/-- How many flights of the carrying run are RESERVED for a lot. -/
def Trunk.reservedCount (t : Trunk) (id : Fin 32) : Nat :=
  ((List.range t.config.carry).filter fun d => t.flight d == .reserved id).length

/-- How many flights of the carrying run are LOADED with a lot. -/
def Trunk.loadedInMap (t : Trunk) (id : Fin 32) : Nat :=
  ((List.range t.config.carry).filter fun d => t.flight d == .loaded id).length

/-- The number of EMPTY flights strictly between two offsets (R32). -/
def Trunk.clearCount (t : Trunk) (a b : Nat) : Nat :=
  ((List.range (b - a - 1)).filter fun k => t.flight (a + 1 + k) == .empty).length

/-- What the flights of a lot that leaves the trunk become: RESERVED becomes EMPTY, LOADED becomes
UNTRACKED (R9, R26, R28, R39, R60). -/
def Flight.withoutLot (id : Fin 32) : Flight → Flight
  | .reserved x => if x = id then .empty else .reserved x
  | .loaded x => if x = id then .untracked else .loaded x
  | f => f

/-- The trunk without a lot's flights. -/
def Trunk.dropLot (t : Trunk) (id : Fin 32) : Trunk := t.mapRun (Flight.withoutLot id)

/-! ### Lots (R20 to R22) -/

/-- A lot record changed, if the lot is in the table. -/
def State.updateLot (s : State) (id : Fin 32) (f : Lot → Lot) : State :=
  match s.intake.lots[id] with
  | none => s
  | some l => s.withIntake { s.intake with lots := put s.intake.lots id (some (f l)) }

/-- The open states of R21. -/
def LotState.isOpen : LotState → Bool
  | .pending | .reserved | .loading => true
  | _ => false

/-- The states in which a lot's commitment stands (R22). -/
def LotState.isCommitted : LotState → Bool
  | .reserved | .loading | .inTransit => true
  | _ => false

/-- The open lot of a source, with its record (R21). -/
def State.openLot (s : State) (src : Source) : Option (Fin 32 × Lot) :=
  (List.finRange 32).findSome? fun i =>
    match s.intake.lots[i] with
    | some l => if l.source = src && l.state.isOpen then some (i, l) else none
    | none => none

/-- A lot's volume: the actual volume if present, otherwise the declared volume (R22). -/
def Lot.volume (l : Lot) : Nat := l.actual.getD l.declared

/-- Whether the lot table is empty. -/
def State.noLots (s : State) : Bool := s.intake.lots.toList.all Option.isNone

/-- The outlet of a source: outlets 0 to 7 are the cells', outlet 8 the flush outlet. -/
def Source.outlet : Source → Fin 9
  | .cell c => ⟨c.1, Nat.lt_succ_of_lt c.2⟩
  | .flush => 8

/-- The source served by an outlet. -/
def outletSource (o : Fin 9) : Source :=
  if h : o.1 < 8 then .cell ⟨o.1, h⟩ else .flush

/-- The offset of an outlet (R2, R164). -/
def State.outletOffset (s : State) (o : Fin 9) : Nat :=
  if h : o.1 < 8 then s.cells[(⟨o.1, h⟩ : Fin 8)].config.outletOffset else s.trunk.config.flushOffset

/-- Whether an outlet is in use: an enabled cell's, or the flush outlet (R34). -/
def State.outletInUse (s : State) (o : Fin 9) : Bool :=
  if h : o.1 < 8 then s.cells[(⟨o.1, h⟩ : Fin 8)].config.enabled else true

/-- The material target and purge of a flight (R32); absent for EMPTY. A flight that names no lot
of the table does not arise (R1); it is taken as untracked material (log 20). -/
def State.material (s : State) (f : Flight) : Option (Target × Nat) :=
  match f with
  | .empty => none
  | .untracked => some (.reject, 15)
  | .reserved x | .loaded x =>
    match s.intake.lots[x] with
    | some l => some (l.target, l.purge)
    | none => some (.reject, 15)

/-! ### Notices (R46, R146, R187) -/

/-- Whether two notices concern one object: the cell's grants, or one lot id. -/
def Notice.sameObject : Notice → Notice → Bool
  | .grant _ _ _, .grant _ _ _ => true
  | .lot a _ _ _ _ _, .lot b _ _ _ _ _ => a == b
  | _, _ => false

/-- A notice posted to a queue: replaced in place where an entry of its object waits, appended
otherwise (R187). -/
def postIn (q : List Notice) (n : Notice) : List Notice :=
  if q.any n.sameObject then q.map fun m => if n.sameObject m then n else m else q ++ [n]

/-- A notice posted to a cell's port: that port's queue alone changes (R187). An older lot's notice
under the same id that waits in another cell's queue (R20) stays there, which is the model's choice
(log 37). -/
def State.post (s : State) (c : Fin 8) (n : Notice) : State :=
  s.withLinks { s.links with notices := change s.links.notices c fun q => postIn q n }

/-- The LOT notice of a record as it stands (R46). -/
def Lot.notice (l : Lot) (id : Fin 32) : Notice :=
  .lot id l.state l.mixed l.short l.spilledInto l.contaminated

/-- A LOT notice is posted for a cell's lot whose notify flag is set (R46). -/
def State.postLotRecord (s : State) (id : Fin 32) (l : Lot) : State :=
  match l.source with
  | .cell c => if l.notify then s.post c (l.notice id) else s
  | .flush => s

/-- The LOT notice of a lot of the table is posted. -/
def State.postLot (s : State) (id : Fin 32) : State :=
  match s.intake.lots[id] with
  | some l => s.postLotRecord id l
  | none => s

/-! ### Valves (R124, R130) -/

/-- One of a cell's two valves. -/
def CellValves.get (v : CellValves) : ValveKind → Valve
  | .flood => v.flood
  | .hp => v.hp

/-- A cell's valves with one replaced. -/
def CellValves.set (v : CellValves) (k : ValveKind) (x : Valve) : CellValves :=
  match k with
  | .flood => { v with flood := x }
  | .hp => { v with hp := x }

/-- A valve record. -/
def State.valve (s : State) (c : Fin 8) (k : ValveKind) : Valve := s.grants.valves[c].get k

/-- A valve record replaced. -/
def State.setValve (s : State) (c : Fin 8) (k : ValveKind) (x : Valve) : State :=
  s.withGrants { s.grants with valves := change s.grants.valves c fun v => v.set k x }

/-- The GRANT notice of a cell with the grants as they stand (R146). -/
def State.postGrant (s : State) (c : Fin 8) (r : GrantReason) : State :=
  s.post c (.grant (s.valve c .flood).commanded (s.valve c .hp).commanded r)

/-- A grant commanded on a valve (R124). -/
def Valve.command (v : Valve) (g settle : Nat) : Valve :=
  if v.commanded < g then
    let k := max v.counted g
    { v with commanded := g, counted := k, timer := if k = g then .stopped else v.timer }
  else if g < v.commanded then { v with commanded := g, timer := .running settle }
  else v

/-- Whether any request is pending. -/
def State.anyPending (s : State) : Bool :=
  s.grants.valves.toList.any fun v => v.flood.pending.isSome || v.hp.pending.isSome

/-- The request stamp counter goes to 0 when no request is pending (R130). -/
def State.restStamp (s : State) : State :=
  if s.anyPending then s else s.withGrants { s.grants with stamp := 0 }

/-- A stamp counter advanced, saturating (R20, R130). -/
def nextStamp (n : Nat) : Nat := min Config.stampMax (n + 1)

/-- The request stamp counter advanced. -/
def State.takeStamp (s : State) : State :=
  s.withGrants { s.grants with stamp := nextStamp s.grants.stamp }

/-- A grant commanded on a cell's valve. -/
def State.commandValve (s : State) (c : Fin 8) (k : ValveKind) (g : Nat) : State :=
  s.setValve c k ((s.valve c k).command g s.grants.supply.settleTime)

/-- A valve's pending request set. -/
def State.setRequest (s : State) (c : Fin 8) (k : ValveKind) (p : PendingRequest) : State :=
  s.setValve c k { s.valve c k with pending := some p }

/-- A valve's pending request cleared. -/
def State.clearRequest (s : State) (c : Fin 8) (k : ValveKind) : State :=
  (s.setValve c k { s.valve c k with pending := none }).restStamp

/-- The priority of a cell's active job (R132, R136); 0 for a cell with no job, which holds no
grant and no request. -/
def State.priority (s : State) (c : Fin 8) : Nat :=
  match s.cells[c].facts with
  | some f => f.priority
  | none => 0

end Sys2Proof.Machine
end

