-- ==== Sys2Proof/Machine/Flags.lean ====
section
/-! DEFINITION. The flag computations: the fifteen alert sources and their flags (R195), the alert
line, and the output lines; with the transmitters' choice (R188) these end every event. -/

namespace Sys2Proof.Machine

/-! ### Alert sources (section 11.4) -/

/-- The sources in the order of the table of section 11.4. -/
def alertSources : Vector AlertSource 15 :=
  #v[.shed, .blocked, .jam, .gateFault, .routingFault, .bin, .filterFault, .pair, .exception,
    .linkLost, .registration, .samplesStale, .hpSupply, .floodSupply, .overload]

/-- A source's place in the table. -/
def AlertSource.index : AlertSource → Fin 15
  | .shed => 0
  | .blocked => 1
  | .jam => 2
  | .gateFault => 3
  | .routingFault => 4
  | .bin => 5
  | .filterFault => 6
  | .pair => 7
  | .exception => 8
  | .linkLost => 9
  | .registration => 10
  | .samplesStale => 11
  | .hpSupply => 12
  | .floodSupply => 13
  | .overload => 14

/-- Whether a source is active (section 11.4; the rule of each is in its row). -/
def State.alertActive (s : State) : AlertSource → Bool
  | .shed => s.grants.shed.state != .idle
  | .blocked => s.crusher.state == .blocked
  | .jam => s.trunk.halt.jam
  | .gateFault => s.outlets.toList.any fun o => o.gate == .fault
  | .routingFault => s.routing.state == .fault
  | .bin => s.bins.toList.any fun b => b.unexpected
  | .filterFault => s.filter.units.toList.any fun u => u.state == .fault
  | .pair => s.samples.clean.state == .disagree || s.samples.dirty.state == .disagree
  | .exception => s.balance.hold
  | .linkLost => s.cells.toList.any fun c => c.config.enabled && c.link == .lost
  | .registration => s.trunk.registration
  | .samplesStale => s.samples.stale
  | .hpSupply => s.grants.hpFault
  | .floodSupply => s.grants.floodFault
  | .overload => s.trunk.halt.overload

/-- Whether a source's flag is latched: its enable is on, or it is BLOCKED (R195). -/
def State.isLatched (s : State) (a : AlertSource) : Bool :=
  s.plant.enables[a.index] || a == .blocked

/-- A flag after its source has been seen: a latched flag is set by an active source and stays set,
a live flag follows the source (R195). -/
def State.flagNow (s : State) (a : AlertSource) : Bool :=
  if s.isLatched a then s.plant.flags[a.index] || s.alertActive a else s.alertActive a

/-- The flags brought up to date with the sources (R195). -/
def State.refreshFlags (s : State) : State :=
  s.withPlant { s.plant with flags := alertSources.map s.flagNow }

/-- The alert line: asserted while any latched flag is set (R195). -/
def State.alertLine (s : State) : Bool :=
  alertSources.toList.any fun a => s.isLatched a && s.plant.flags[a.index]

/-! ### Output lines -/

/-- Whether the part is OPERATING. -/
def State.operating (s : State) : Bool := s.part == .operating

/-- The output lines that the state shows: the run line (R14), the open lines (R35, R37), the
crusher drive lines (R50), the routing position (R61), the bin-released lamps (R66), the flush-start
lines (R88), the setpoints (R124), the aux outputs (R163) and the alert line (R195). -/
def State.lines (s : State) : Outputs where
  conveyorRun := s.operating && s.trunk.halt.isEmpty
  outletOpen := s.outlets.map fun o => o.gate == .isOpen
  crusherForward := s.operating && (s.crusher.state == .running || s.crusher.state == .probing)
  crusherReverse := s.operating && s.crusher.state == .reversing
  routingPosition := s.routing.position
  binReleased := s.bins.map fun b => b.state == .released
  flushStart := s.filter.units.map fun u => u.state == .flushing
  floodSetpoint := s.grants.valves.map fun v => v.flood.commanded
  hpSetpoint := s.grants.valves.map fun v => v.hp.commanded
  aux := s.cells.map fun c => c.aux
  alert := s.alertLine

/-- The output lines driven. -/
def State.drive (s : State) : State := s.withOutputs s.lines

/-! ### Transmitters (R188) -/

/-- Whether a transmitter's notices may go: a cell port whose link is LINKED. -/
def State.mayNotify (s : State) (c : Fin 8) : Bool := s.cells[c].link == .linked

/-- The head of a cell port's notice queue begins to be sent, where one waits and may go. -/
def State.startNotice (s : State) (c : Fin 8) (p : Fin 9) : State :=
  match s.links.notices[c] with
  | [] => s
  | n :: rest =>
    if s.mayNotify c then
      s.withLinks { s.links with
        notices := put s.links.notices c rest
        tx := change s.links.tx p fun t => { t with sending := some (.notice n) } }
    else s

/-- An IDLE transmitter begins what it has to send: the oldest reply, otherwise on a cell port
whose link is LINKED the head of the notice queue, otherwise nothing (R188). -/
def State.startTx (s : State) (p : Fin 9) : State :=
  match s.links.tx[p].sending with
  | some _ => s
  | none =>
    match s.links.tx[p].replies with
    | r :: rest =>
      s.withLinks { s.links with
        tx := change s.links.tx p fun t => { t with replies := rest, sending := some (.reply r) } }
    | [] => if h : p.1 < 8 then s.startNotice ⟨p.1, h⟩ p else s

/-- Every IDLE transmitter begins what it has to send. -/
def State.startAllTx (s : State) : State := (List.finRange 9).foldl State.startTx s

/-- The end of every event: flags, transmitters, lines (log 4). -/
def State.finish (s : State) : State := s.refreshFlags.startAllTx.drive

end Sys2Proof.Machine
end

