-- ==== Sys2Proof/Machine/Balance.lean ====
section
/-! DEFINITION. The balance unit (chapter 6): the eight stages of an evaluation, the exceptions and
HOLD, the commitment update. -/

namespace Sys2Proof.Machine

/-! ### Stage 1: availability (R110) -/

/-- Whether a unit's state is counted as available (R88). -/
def UnitState.isCounted : UnitState → Bool
  | .online | .flushWait | .flushReady => true
  | _ => false

/-- Whether a unit raises INVALID: counted, with dp_max no greater than dp_clean (R110). -/
def FilterUnit.isInvalid (u : FilterUnit) : Bool :=
  u.state.isCounted && decide (u.config.dpMax ≤ u.config.dpClean)

/-- Whether an evaluation uses the unit's dp (R110). -/
def FilterUnit.usesDp (u : FilterUnit) : Bool :=
  u.state.isCounted && decide (u.config.dpClean < u.config.dpMax)

/-- The availability A_u of a unit at a differential pressure (R110). -/
def FilterUnit.availability (u : FilterUnit) (dp : Nat) : Nat :=
  if !u.state.isCounted then 0
  else if u.config.dpMax ≤ u.config.dpClean then 0
  else if dp ≤ u.config.dpClean then u.config.ratedFlow
  else if u.config.dpMax ≤ dp then 0
  else u.config.ratedFlow * (u.config.dpMax - dp) / (u.config.dpMax - u.config.dpClean)

/-- The channel that carries a unit's differential pressure (R75). -/
def unitChannel (u : Fin 6) : Fin 14 := ⟨u.1, Nat.lt_of_lt_of_le u.2 (by decide)⟩

/-- A unit's conditioned dp with its held marker (R83). -/
def State.unitDp (s : State) (u : Fin 6) : Channel := s.samples.channels[unitChannel u]

/-! ### Stages 2 to 5 -/

/-- A sum saturated at 65535 (R111). -/
def saturate16 (n : Nat) : Nat := min n Config.max16

/-- The clean part of the reserve credit (R113). -/
def cleanPart (vClean vLow horizon : Nat) : Int :=
  (((vClean : Int) - vLow) * 600).tdiv horizon

/-- The dirty part of the reserve credit (R113). -/
def dirtyPart (vDirty vHigh horizon : Nat) : Int :=
  if vHigh < vDirty then -((((vDirty : Int) - vHigh) * 600).tdiv horizon) else 0

/-- A value clamped to ±65535 (R113). -/
def clampCredit (x : Int) : Int := max (-65535) (min 65535 x)

/-- The total supply T, clamped to 0 to 65535 (R113). -/
def clampTotal (x : Int) : Nat := (max 0 (min 65535 x)).toNat

/-! ### Stages 6 to 8: the commitments (R115, R116) -/

/-- The sum of the eight counted grants of a kind. -/
def State.sumCounted (s : State) (k : ValveKind) : Nat :=
  s.grants.valves.toList.foldl (fun n v => n + (v.get k).counted) 0

/-- Stages 6 to 8 computed afresh from counted sums; HELD_INPUT and stages 1 to 5 are kept. -/
def BalanceRecord.commit (r : BalanceRecord) (flood hp : Nat) : BalanceRecord :=
  let ht : Int := (r.total : Int) - flood - hp
  let hpol : Int := (r.polish : Int) - hp
  { r with
    sumFlood := flood
    sumHp := hp
    hTotal := ht
    hPolish := hpol
    deficit := decide (ht < 0) || decide (hpol < 0)
    polishBound := decide (hpol < ht) }

/-- A commitment update (R109): stages 6 to 8 afresh, no exception, the count unchanged. -/
def State.commitmentUpdate (s : State) : State :=
  s.withBalance { s.balance with
    record := s.balance.record.commit (s.sumCounted .flood) (s.sumCounted .hp) }

/-! ### An evaluation (R108) -/

/-- The record an evaluation computes and the exceptions it raises (R110 to R116). -/
def State.computeBalance (s : State) : BalanceRecord × Exceptions :=
  let f := s.filter.units
  let cfg := s.balance.config
  let avail : Vector Nat 6 := Vector.ofFn fun u : Fin 6 => f[u].availability (s.unitDp u).value
  let sumPrimary := avail[0] + avail[1] + avail[2] + avail[3]
  let sumPolish := avail[4] + avail[5]
  let primary := saturate16 sumPrimary
  let polish := saturate16 sumPolish
  let vClean := s.samples.clean.used * cfg.cleanArea / 100
  let vDirty := s.samples.dirty.used * cfg.dirtyArea / 100
  let cp := cleanPart vClean cfg.vLow cfg.horizon
  let dp := dirtyPart vDirty cfg.vDirtyHigh cfg.horizon
  let credit := clampCredit (cp + dp)
  let supply : Int := (primary : Int) + credit
  let heldDp := (List.finRange 6).any fun u => f[u].usesDp && (s.unitDp u).held
  let held := heldDp || s.samples.clean.held || s.samples.dirty.held
  let r : BalanceRecord :=
    { BalanceRecord.zero with
      avail := avail
      primary := primary
      polish := polish
      vClean := vClean
      vDirty := vDirty
      cleanPart := cp
      dirtyPart := dp
      credit := credit
      total := clampTotal supply
      heldInput := held }
  (r.commit (s.sumCounted .flood) (s.sumCounted .hp),
    { range := held
      invalid := f.toList.any FilterUnit.isInvalid
      overflow := decide (Config.max16 < sumPrimary) || decide (Config.max16 < sumPolish) ||
        decide (credit ≠ cp + dp) || decide (65535 < supply)
      depleted := decide (supply < 0) })

/-! ### Exceptions and HOLD (R117, R118) -/

/-- Those of either. -/
def Exceptions.union (a b : Exceptions) : Exceptions :=
  ⟨a.range || b.range, a.invalid || b.invalid, a.overflow || b.overflow, a.depleted || b.depleted⟩

/-- Those of the first that are not of the second. -/
def Exceptions.without (a b : Exceptions) : Exceptions :=
  ⟨a.range && !b.range, a.invalid && !b.invalid, a.overflow && !b.overflow,
    a.depleted && !b.depleted⟩

/-- Whether there is any. -/
def Exceptions.any (a : Exceptions) : Bool := a.range || a.invalid || a.overflow || a.depleted

/-- Every cell's exception-pending marker set (R117, R118). -/
def Balance.markAll (b : Balance) : Balance := { b with markers := Vector.replicate 8 true }

/-- HOLD examined: set while a sticky flag is set whose exception is unmasked (R118). -/
def Balance.examineHold (b : Balance) : Balance :=
  { b with hold := (b.sticky.without b.masked).any }

/-- An evaluation (R108): the record replaced, the exceptions raised, HOLD examined, the count
increased by one. -/
def State.evaluateBalance (s : State) : State :=
  let r := s.computeBalance
  let b := { s.balance with
    record := r.1
    evalCount := (s.balance.evalCount + 1) % 65536
    sticky := s.balance.sticky.union r.2 }
  let b1 := if (r.2.without b.masked).any then b.markAll else b
  s.withBalance b1.examineHold

/-- Whether replacing the masks by `m` unmasks an exception whose sticky flag is set (R119). -/
def Balance.unmasks (b : Balance) (m : Exceptions) : Bool :=
  ((b.sticky.without m).without (b.sticky.without b.masked)).any

/-- The masks replaced and HOLD examined (R119); every marker is set where HOLD begins (R118), and
where an exception whose sticky flag is set is unmasked, whether HOLD stood before or not (R119). -/
def Balance.setMasks (b : Balance) (m : Exceptions) : Balance :=
  let b1 := { b with masked := m }.examineHold
  if (b1.hold && !b.hold) || b.unmasks m then b1.markAll else b1

/-- Sticky flags cleared and HOLD examined (R120). -/
def Balance.clearSticky (b : Balance) (named : Exceptions) : Balance :=
  { b with sticky := b.sticky.without named }.examineHold

end Sys2Proof.Machine
end

