-- ==== Sys2Proof/Machine/Grants.lean ====
section
/-! DEFINITION. The grant arbiter (chapter 7): withdrawals and demands, the handling of an
evaluation's result (low-low, shedding, pending pass, bounds), supply faults. -/

namespace Sys2Proof.Machine

/-! ### Requests of the cell context unit (R129) -/

/-- Both valves of a cell commanded to 0 and both pending requests cleared, with a GRANT notice
REQUESTED if either commanded grant changed (R129). The decrease stays counted until its settle
timer expires (R115, R124), also where R107 speaks of a suspended job's grants as counted at 0
(log 33). -/
def State.withdraw (s : State) (c : Fin 8) : State :=
  let changed := decide (0 < (s.valve c .flood).commanded) || decide (0 < (s.valve c .hp).commanded)
  let s1 := (((s.commandValve c .flood 0).commandValve c .hp 0).clearRequest c .flood).clearRequest
    c .hp
  if changed then s1.postGrant c .requested else s1

/-- A new request of origin REQUEST, entered with bound TOTAL (R130). -/
def newRequest (value stamp : Nat) : PendingRequest := ⟨value, stamp, .request, .total⟩

/-- Which of a cell's demands are entered as pending requests (R129): flood, then HP. -/
def State.demandsEntered (s : State) (c : Fin 8) : Bool × Bool :=
  let w := s.cells[c].working
  (decide ((s.valve c .flood).commanded < w.flood),
    decide ((s.valve c .hp).commanded < w.hp) && s.cells[c].link == .linked && !s.grants.hpFault)

/-- A cell's demands entered as pending requests under one stamp (R129). -/
def State.requestDemands (s : State) (c : Fin 8) : State :=
  let entered := s.demandsEntered c
  let w := s.cells[c].working
  let stamp := s.grants.stamp
  let s1 := if entered.1 then s.setRequest c .flood (newRequest w.flood stamp) else s
  let s2 := if entered.2 then s1.setRequest c .hp (newRequest w.hp stamp) else s1
  if entered.1 || entered.2 then s2.takeStamp else s2

/-! ### Restoration requests (R137, R141) -/

/-- The request a valve is left with when a grant is taken from it: the grant before with origin
RESTORE, or an existing greater request, in either case with a new stamp (R137). -/
def restoreRequest (existing : Option PendingRequest) (before stamp : Nat) : PendingRequest :=
  match existing with
  | some p => if p.value ≤ before then ⟨before, stamp, .restore, .total⟩ else { p with stamp := stamp }
  | none => ⟨before, stamp, .restore, .total⟩

/-- The restoration request of a valve entered. -/
def State.enterRestore (s : State) (c : Fin 8) (k : ValveKind) (before : Nat) : State :=
  (s.setRequest c k (restoreRequest (s.valve c k).pending before s.grants.stamp)).takeStamp

/-! ### Low-low (R141) -/

/-- One cell's HP grant withdrawn by the low-low state (R141). -/
def State.lowlowWithdraw (s : State) (c : Fin 8) : State :=
  let before := (s.valve c .hp).commanded
  if before = 0 then s
  else ((s.commandValve c .hp 0).enterRestore c .hp before).postGrant c .lowlow

/-- The low-low state re-examined against the result (R141). The HP valves are withdrawn by rising
cell number, which decides the stamps of their requests and is not given by the spec (log 34). -/
def State.handleLowlow (s : State) : State :=
  let v := s.balance.record.vClean
  if s.grants.lowlow then
    if s.balance.config.vLow ≤ v then s.withGrants { s.grants with lowlow := false } else s
  else if v < s.balance.config.vLowLow then
    (List.finRange 8).foldl State.lowlowWithdraw (s.withGrants { s.grants with lowlow := true })
  else s

/-! ### Shedding (R135 to R139) -/

/-- The first of a list by an order, absent for the empty list. -/
def firstBy {α : Type} (better : α → α → Bool) : List α → Option α
  | [] => none
  | x :: xs =>
    match firstBy better xs with
    | none => some x
    | some y => if better y x then some y else some x

/-- Lower priority first, then higher cell number (R136). -/
def State.sheddableBefore (s : State) (a b : Fin 8) : Bool :=
  decide (s.priority a < s.priority b) ||
  (decide (s.priority a = s.priority b) && decide (b.1 < a.1))

/-- A cell's flood grant above its floor (R136, phase a). -/
def State.excess (s : State) (c : Fin 8) : Nat :=
  (s.valve c .flood).commanded - s.cells[c].config.floor

/-- The victim of phase a: the largest excess over the floor (R136). -/
def State.victimA (s : State) : Option ShedStep :=
  (firstBy (fun a b => decide (s.excess b < s.excess a) ||
      (decide (s.excess a = s.excess b) && s.sheddableBefore a b))
    ((List.finRange 8).filter fun c => decide (0 < s.excess c))).map fun c =>
      ⟨c, .flood, .a, (s.valve c .flood).commanded, s.cells[c].config.floor⟩

/-- The victim of phase b or c: the lowest priority among the cells whose grant of the kind is
above 0 (R136). -/
def State.victimTo0 (s : State) (k : ValveKind) (ph : Phase) : Option ShedStep :=
  (firstBy s.sheddableBefore
    ((List.finRange 8).filter fun c => decide (0 < (s.valve c k).commanded))).map fun c =>
      ⟨c, k, ph, (s.valve c k).commanded, 0⟩

/-- The victim of a step against the headrooms of the result being handled (R136). -/
def State.victim (s : State) : Option ShedStep :=
  if s.balance.record.hPolish < 0 then s.victimTo0 .hp .b
  else
    match s.victimA with
    | some v => some v
    | none =>
      match s.victimTo0 .hp .b with
      | some v => some v
      | none => s.victimTo0 .flood .c

/-- The reason of a shed step's notice (R137). -/
def Phase.reason : Phase → GrantReason
  | .c => .floodLost
  | _ => .shed

/-- A shed step (R137). The valve's own settle timer is stopped and stays stopped: the step timer
counts the decrease (log 12). -/
def State.takeStep (s : State) (v : ShedStep) : State :=
  let s1 := s.setValve v.cell v.kind { s.valve v.cell v.kind with
    commanded := v.value
    timer := .stopped }
  let s2 := (s1.enterRestore v.cell v.kind v.before).postGrant v.cell v.phase.reason
  s2.withGrants { s2.grants with shed := {
    state := .settling
    stepCount := min Config.max16 (s2.grants.shed.stepCount + 1)
    current := some v
    timer := .running s2.grants.supply.settleTime } }

/-- The shed operation's state set, with no current step. -/
def State.restShed (s : State) (st : ShedState) : State :=
  s.withGrants { s.grants with shed := { s.grants.shed with state := st, current := none } }

/-- A victim is sought: a step is taken, or the operation is EXHAUSTED (R135, R138, R139). -/
def State.seekVictim (s : State) : State :=
  match s.victim with
  | some v => s.takeStep v
  | none => s.restShed .exhausted

/-- The shed part of the handling (R131, R138). `stepExpiry` says that the result is that of the
step timer's expiry, the only one that acts on a SETTLING operation. -/
def State.handleShed (s : State) (stepExpiry : Bool) : State :=
  let deficit := s.balance.record.deficit
  match s.grants.shed.state with
  | .idle =>
    if deficit then
      (s.withGrants { s.grants with shed := { s.grants.shed with stepCount := 0 } }).seekVictim
    else s
  | .settling =>
    if stepExpiry then (if deficit then s.seekVictim else s.restShed .idle) else s
  | .exhausted => if deficit then s.seekVictim else s.restShed .idle

/-! ### The pending pass over grant requests (R132 to R134) -/

/-- The place of a kind at equal stamps: flood before HP (R132). -/
def valveOrder : ValveKind → Nat
  | .flood => 0
  | .hp => 1

/-- A pending request with the valve it belongs to. -/
structure Waiting where
  cell : Fin 8
  kind : ValveKind
  request : PendingRequest
  deriving DecidableEq, Repr

/-- The order of R132: highest priority, lowest stamp, flood before HP, lowest cell. -/
def State.requestBefore (s : State) (a b : Waiting) : Bool :=
  let pa := s.priority a.cell
  let pb := s.priority b.cell
  decide (pb < pa) || (decide (pa = pb) &&
    (decide (a.request.stamp < b.request.stamp) || (decide (a.request.stamp = b.request.stamp) &&
      (decide (valveOrder a.kind < valveOrder b.kind) || (decide (valveOrder a.kind = valveOrder b.kind) &&
        decide (a.cell.1 < b.cell.1))))))

/-- The pending requests in the order of R132. -/
def State.waitingRequests (s : State) : List Waiting :=
  sortBy s.requestBefore ((List.finRange 8).flatMap fun c =>
    [ValveKind.flood, .hp].filterMap fun k =>
      (s.valve c k).pending.map fun p => ⟨c, k, p⟩)

/-- A pass in progress: the state, the running headrooms, and the increases it commanded. -/
structure Pass where
  st : State
  hTotal : Int
  hPolish : Int
  granted : List Waiting

/-- An increase commanded in a pass, charged against the headrooms by the rise of the counted
grant (R132, R133). -/
def Pass.grant (p : Pass) (w : Waiting) (g : Nat) : Pass :=
  let rise := g - (p.st.valve w.cell w.kind).counted
  { st := p.st.commandValve w.cell w.kind g
    hTotal := p.hTotal - rise
    hPolish := if w.kind = .hp then p.hPolish - rise else p.hPolish
    granted := p.granted ++ [w] }

/-- The bound of a request left pending set. -/
def State.setBound (s : State) (c : Fin 8) (k : ValveKind) (b : Bound) : State :=
  match (s.valve c k).pending with
  | some p => s.setRequest c k { p with bound := b }
  | none => s

/-- A flood request served in full, in part or not at all (R132). -/
def Pass.serveFlood (p : Pass) (w : Waiting) : Pass :=
  let v := p.st.valve w.cell .flood
  let most : Int := (v.counted : Int) + p.hTotal - p.st.balance.config.margin
  let g := (min (w.request.value : Int) most).toNat
  if v.commanded < g then
    let p1 := p.grant w g
    if g = w.request.value then { p1 with st := p1.st.clearRequest w.cell .flood }
    else { p1 with st := p1.st.setBound w.cell .flood .total }
  else { p with st := p.st.setBound w.cell .flood .total }

/-- An HP request served in full or not at all (R133). -/
def Pass.serveHp (p : Pass) (w : Waiting) : Pass :=
  let v := p.st.valve w.cell .hp
  let rise : Int := ((w.request.value - v.counted : Nat) : Int)
  let may := p.st.cells[w.cell].link == .linked && !p.st.grants.hpFault && !p.st.grants.lowlow &&
    decide ((p.st.balance.config.margin : Int) ≤ p.hTotal - rise)
  if may then
    if 0 ≤ p.hPolish - rise then
      let p1 := p.grant w w.request.value
      { p1 with st := p1.st.clearRequest w.cell .hp }
    else { p with st := p.st.setBound w.cell .hp .polish }
  else { p with st := p.st.setBound w.cell .hp .total }

/-- One request visited. -/
def Pass.serve (p : Pass) (w : Waiting) : Pass :=
  match w.kind with
  | .flood => p.serveFlood w
  | .hp => p.serveHp w

/-- The GRANT reason of an increase, by the request's origin (R134). -/
def Origin.reason : Origin → GrantReason
  | .request => .granted
  | .restore => .restored

/-- The GRANT notice of one increase. -/
def State.postIncrease (s : State) (w : Waiting) : State :=
  s.postGrant w.cell w.request.origin.reason

/-- The notices of a pass: valve by valve, each cell's flood before its HP (R134, log 13). -/
def State.postIncreases (s : State) (granted : List Waiting) : State :=
  ((granted.filter fun w => w.kind == .flood) ++
    (granted.filter fun w => w.kind == .hp)).foldl State.postIncrease s

/-- The pending pass, with its notices and the commitment update a changed counted grant causes
(R132 to R134). -/
def State.grantPass (s : State) : State :=
  let p := s.waitingRequests.foldl Pass.serve
    ⟨s, s.balance.record.hTotal, s.balance.record.hPolish, []⟩
  let s1 := p.st.postIncreases p.granted
  if s1.sumCounted .flood = s.sumCounted .flood ∧ s1.sumCounted .hp = s.sumCounted .hp then s1
  else s1.commitmentUpdate

/-- Whether a pass runs (R131, part 3). -/
def State.passRuns (s : State) : Bool :=
  !s.balance.hold && s.grants.shed.state == .idle && !s.balance.record.deficit && s.anyPending

/-! ### Bounds (R130) -/

/-- The bound a waiting request takes before the pass's own reason: HOLD, SHED, LOWLOW (R130). -/
def State.forcedBound (s : State) (k : ValveKind) : Option Bound :=
  if s.balance.hold then some .hold
  else if s.grants.shed.state ≠ .idle then some .shed
  else if k = .hp ∧ s.grants.lowlow then some .lowlow
  else none

/-- The bound of one valve's request set at the end of a handling. -/
def State.boundValve (s : State) (x : Fin 8 × ValveKind) : State :=
  match s.forcedBound x.2 with
  | some b => s.setBound x.1 x.2 b
  | none => s

/-- All sixteen valves. -/
def allValves : List (Fin 8 × ValveKind) :=
  (List.finRange 8).flatMap fun c => [(c, .flood), (c, .hp)]

/-- The handling of an evaluation's result by the grant arbiter (R131). -/
def State.handleResult (s : State) (stepExpiry : Bool) : State :=
  let s1 := s.handleLowlow.handleShed stepExpiry
  let s2 := if s1.passRuns then s1.grantPass else s1
  allValves.foldl State.boundValve s2

/-! ### Supply faults (R142, R143) and link loss (R145) -/

/-- Whether some cell's commanded grant of a kind is above 0. -/
def State.someGrant (s : State) (k : ValveKind) : Bool :=
  s.grants.valves.toList.any fun v => decide (0 < (v.get k).commanded)

/-- A consecutive-set count after a set (R142, R143). That it goes on from its kept value at the first
set after staleness (R84) is the model's choice (log 36). -/
def headerCount (ch : Channel) (limit : Nat) (some : Bool) (count : Nat) : Nat :=
  if ch.held then count else if ch.value < limit && some then min 5 (count + 1) else 0

/-- One cell's HP withdrawn for a reason: commanded to 0 with a notice if it was above 0, its HP
pending request cleared (R142, R145). -/
def State.dropHp (r : GrantReason) (s : State) (c : Fin 8) : State :=
  let s1 := if (s.valve c .hp).commanded = 0 then s else (s.commandValve c .hp 0).postGrant c r
  s1.clearRequest c .hp

/-- The header pressures of a set examined (R142, R143). -/
def State.examineHeaders (s : State) : State :=
  let hc := headerCount s.samples.channels[(12 : Fin 14)] s.grants.supply.hpLow (s.someGrant .hp)
    s.grants.hpCount
  let fc := headerCount s.samples.channels[(13 : Fin 14)] s.grants.supply.floodLow
    (s.someGrant .flood) s.grants.floodCount
  let newHp := decide (hc = 5) && !s.grants.hpFault
  let s1 := s.withGrants { s.grants with
    hpCount := hc
    floodCount := fc
    hpFault := s.grants.hpFault || decide (hc = 5)
    floodFault := s.grants.floodFault || decide (fc = 5) }
  if newHp then (List.finRange 8).foldl (State.dropHp .hpFault) s1 else s1

end Sys2Proof.Machine
end

