-- ==== Sys2Proof/Machine/Bins.lean ====
section
/-! DEFINITION. An event in progress, with what it has still to cause; the bin table (R65 to R71)
and the routing unit's examination (R62 to R65). -/

namespace Sys2Proof.Machine

/-! ### An event in progress -/

/-- The state inside an event, and what the event has still to cause once its own effects are done:
an examination by the routing unit (R62), a pending pass of the intake arbiter (R29), an evaluation
of the balance unit (R107). Each is made once (log 7). -/
structure Event where
  st : State
  exam : Bool
  pass : Bool
  eval : Bool
  deriving DecidableEq, Repr

/-- An event that causes nothing yet. -/
def Event.of (s : State) : Event := ⟨s, false, false, false⟩

/-- The event with its state changed. -/
def Event.map (e : Event) (f : State → State) : Event := { e with st := f e.st }

/-- The event causes an examination. -/
def Event.needExam (e : Event) : Event := { e with exam := true }

/-- The event causes a pending pass. -/
def Event.needPass (e : Event) : Event := { e with pass := true }

/-- The event causes an evaluation. -/
def Event.needEval (e : Event) : Event := { e with eval := true }

/-! ### The bin condition (R65) -/

/-- Whether a bin state gives rise to the bin condition (R65). -/
def BinState.isOut : BinState → Bool
  | .released | .absent | .presentWait => true
  | _ => false

/-- The flights at offsets 0 to D, in rising order. -/
def State.nearOffsets (s : State) : List Nat :=
  (List.range (s.trunk.config.routingLead + 1)).filter (· < s.trunk.config.carry)

/-- The bin condition (R65). -/
def State.binCondition (s : State) : Bool :=
  s.nearOffsets.any fun d =>
    match s.material (s.trunk.flight d) with
    | some (t, _) => s.bins[t.bin].state.isOut
    | none => false

/-- BIN made present or absent as the bin condition has it (R65). -/
def State.examineBin (s : State) : State := s.setHalt .bin s.binCondition

/-! ### Changes of a bin's state (R66) -/

/-- A bin's state changed; a change is reported to the intake arbiter, which runs a pending pass,
and the bin condition is examined again (R66), in CONFIG too, where the UNTRACKED flights near the
crusher are material of bin 4 (log 15). -/
def Event.setBinState (e : Event) (b : Fin 5) (st : BinState) : Event :=
  if e.st.bins[b].state = st then e
  else
    (e.map fun s =>
      (s.withBins (change s.bins b fun x => { x with state := st })).examineBin).needPass

/-- A bin record changed except for its state. -/
def State.updateBin (s : State) (b : Fin 5) (f : Bin → Bin) : State :=
  s.withBins (change s.bins b f)

/-- A CLOSING bin whose committed volume has reached 0 becomes RELEASED (R67). -/
def Event.releaseIfClear (e : Event) (b : Fin 5) : Event :=
  if e.st.bins[b].state = .closing ∧ e.st.bins[b].committed = 0 then e.setBinState b .released else e

/-- An IN_SERVICE bin whose fill reaches or passes its capacity becomes FULL (R68). -/
def Event.fullIfReached (e : Event) (b : Fin 5) : Event :=
  if e.st.bins[b].state = .inService ∧ e.st.delivery.capacity[b] ≤ e.st.bins[b].fill then
    e.setBinState b .full
  else e

/-- A commitment added to a bin (R67). -/
def State.addCommitment (s : State) (b : Fin 5) (v : Nat) : State :=
  s.updateBin b fun x => { x with committed := x.committed + v }

/-- A commitment taken from a bin (R67). -/
def Event.removeCommitment (e : Event) (b : Fin 5) (v : Nat) : Event :=
  (e.map fun s => s.updateBin b fun x => { x with committed := x.committed - v }).releaseIfClear b

/-- The fill after a volume is delivered into a bin, by the bin's state and number (R56). -/
def deliveredFill (s : State) (b : Fin 5) (v : Nat) : Nat :=
  let x := s.bins[b]
  if x.state.isOut then x.fill
  else if b.1 < 4 then min (x.fill + v) (s.delivery.capacity[b] - x.committed)
  else min (x.fill + v) Config.volumeMax

/-- The delivery accounting of a DELIVERED lot, in one step: its commitment leaves its target bin,
its volume goes into the bin of the delivery position (R56). -/
def Event.accountDelivery (e : Event) (l : Lot) (position : Target) : Event :=
  let e1 := e.map fun s =>
    s.updateBin l.target.bin fun x => { x with committed := x.committed - l.volume }
  let e2 := e1.map fun s =>
    s.updateBin position.bin fun x => { x with fill := deliveredFill s position.bin l.volume }
  (e2.releaseIfClear l.target.bin).fullIfReached position.bin

/-! ### The routing unit's examination (R62 to R65) -/

/-- The material target of the lowest material flight at offset D or below (R62). -/
def State.lowestTarget (s : State) : Option Target :=
  s.nearOffsets.findSome? fun d => (s.material (s.trunk.flight d)).map Prod.fst

/-- Whether the crusher holds nothing: no resident lot and no untracked material (R62). -/
def Crusher.isDrained (c : Crusher) : Bool := c.residents.isEmpty && !c.untracked

/-- A move to a position is commanded: MOVING, with the routing timer started (R62). -/
def State.commandMove (s : State) (t : Target) : State :=
  s.withRouting ⟨t, .moving, .running s.delivery.routingTime⟩

/-- A move starts where R62 has it start. -/
def State.startMove (s : State) : State :=
  match s.lowestTarget with
  | some t => if t ≠ s.routing.position ∧ s.crusher.isDrained then s.commandMove t else s
  | none => s

/-- The routing condition (R64): some material flight at offset D or below at whose target the
routing is not SETTLED. R64 speaks of any such flight, where R62 starts a move by the lowest alone
(log 30). -/
def State.routingCondition (s : State) : Bool :=
  s.nearOffsets.any fun d =>
    match s.material (s.trunk.flight d) with
    | some (t, _) => !(s.routing.state == .settled && s.routing.position == t)
    | none => false

/-- The examination of R62: a move starts where it may, and ROUTING and BIN are made present or
absent (R64, R65). The unit examines in OPERATING only. -/
def State.examine (s : State) : State :=
  if s.part = .operating then
    let s1 := s.startMove
    (s1.setHalt .routing s1.routingCondition).examineBin
  else s

end Sys2Proof.Machine
end

