-- ==== Sys2Proof/Machine/Lots.lean ====
section
/-! DEFINITION. The intake arbiter and the outlet gates (chapter 2): creating and ending lots, the
sludge request, gate commands, loading and spill, MIXED marking and its spread, the window search
and the pending pass. -/

namespace Sys2Proof.Machine

/-! ### Creating a lot (R20) -/

/-- Whether a LOT notice of a lot id waits in any notice queue. -/
def State.noticeWaits (s : State) (id : Fin 32) : Bool :=
  s.links.notices.toList.any fun q => q.any fun n =>
    match n with
    | .lot x _ _ _ _ _ => x == id
    | .grant _ _ _ => false

/-- The free lot ids, in rising order. -/
def State.freeIds (s : State) : List (Fin 32) :=
  (List.finRange 32).filter fun i => (s.intake.lots[i]).isNone

/-- The id a new lot takes (R20): the lowest free id with no LOT notice waiting, the lowest free id
where every one has a notice waiting; absent when the table is full. -/
def State.nextId (s : State) : Option (Fin 32) :=
  match s.freeIds.find? fun i => !s.noticeWaits i with
  | some i => some i
  | none => s.freeIds.head?

/-- A lot record put into the table under the next id with the next arrival stamp (R20). -/
def State.createLot (s : State) (l : Lot) : State :=
  match s.nextId with
  | none => s
  | some id =>
    s.withIntake { s.intake with
      lots := put s.intake.lots id (some { l with stamp := s.intake.stamp })
      stamp := nextStamp s.intake.stamp }

/-- The record of a new sludge lot (R44). -/
def sludgeLot (r : SludgeRequest) (allowance : Nat) : Lot where
  source := .flush
  flights := r.flights
  declared := r.volume
  actual := none
  target := ⟨4, .bypass⟩
  purge := 0
  jamAllowance := allowance
  rank := .service
  stamp := 0
  notify := false
  state := .pending
  mixed := false
  short := false
  spilledInto := false
  contaminated := false
  firstEntered := false

/-- Whether a sludge request can be made into a lot: no open sludge lot and a free record (R44). -/
def State.canTakeSludge (s : State) : Bool :=
  (s.openLot .flush).isNone && !s.freeIds.isEmpty

/-- A held sludge request is taken up when both conditions of R44 hold. -/
def Event.takeUpHeld (e : Event) : Event :=
  match e.st.intake.held with
  | none => e
  | some r =>
    if e.st.canTakeSludge then
      (e.map fun s =>
        (s.withIntake { s.intake with held := none }).createLot
          (sludgeLot r s.delivery.untrackedAllowance)).needPass
    else e

/-- A sludge request from the filter bank controller: made into a lot at once, or held (R44). -/
def Event.requestSludge (e : Event) : Event :=
  let r : SludgeRequest := ⟨e.st.filter.sludge.flights, e.st.filter.sludge.volume⟩
  (e.map fun s => s.withIntake { s.intake with held := some r }).takeUpHeld

/-! ### Reports to the filter bank controller (R45, R96, R97) -/

/-- The unit in FLUSH_READY (R88). -/
def FilterBank.readyUnit (f : FilterBank) : Option (Fin 6) :=
  (List.finRange 6).find? fun u => f.units[u].state == .flushReady

/-- A sludge lot's final state is reported (R96). -/
def Event.sludgeFinal (e : Event) (id : Fin 32) : Event :=
  let f := e.st.filter
  if f.begun[id] then e.map fun s => s.withFilter { f with begun := put f.begun id false }
  else
    match f.readyUnit with
    | none => e
    | some u =>
      (e.map fun s => s.withFilter { f with
        units := change f.units u fun x => { x with state := .flushWait }
        slot := none }).needEval

/-- A sludge lot's LOADING is reported: its id joins the begun sludge lots, and the flush of the
FLUSH_READY unit begins (R97). -/
def Event.sludgeLoading (e : Event) (id : Fin 32) : Event :=
  let f := { e.st.filter with begun := put e.st.filter.begun id true }
  match f.readyUnit with
  | none => e.map fun s => s.withFilter f
  | some u =>
    (e.map fun s => s.withFilter { f with
      units := change f.units u fun x =>
        { x with
          state := .flushing
          forced := false
          timer := .running (x.config.flushTime * 1000) } }).needEval

/-! ### Ending a lot (R23) -/

/-- The commitment's part of a lot's ending (R22, R56): a DELIVERED lot is accounted for at its
delivery position; any other committed lot's commitment is removed. -/
def Event.endCommitment (e : Event) (l : Lot) (delivery : Option Target) : Event :=
  match delivery with
  | some p => e.accountDelivery l p
  | none => if l.state.isCommitted then e.removeCommitment l.target.bin l.volume else e

/-- A lot record freed; an empty table sets the stamp counter to 0 (R20, R23). -/
def State.freeLot (s : State) (id : Fin 32) : State :=
  let s1 := s.withIntake { s.intake with lots := put s.intake.lots id none }
  if s1.noLots then s1.withIntake { s1.intake with stamp := 0 } else s1

/-- The ending of a lot that reaches a final state, in the order of R23. -/
def Event.endLot (e : Event) (id : Fin 32) (final : LotState) (delivery : Option Target) : Event :=
  match e.st.intake.lots[id] with
  | none => e
  | some l =>
    let e1 := e.map fun s => s.postLotRecord id { l with state := final }
    let e2 := e1.endCommitment l delivery
    let e3 := if l.source = .flush then e2.sludgeFinal id else e2
    ((e3.map fun s => s.freeLot id).takeUpHeld).needPass

/-- The cancellation of an open lot in PENDING or RESERVED: a RESERVED lot's flights become EMPTY,
and the lot becomes CANCELLED (R26, R28). -/
def Event.cancelLot (e : Event) (id : Fin 32) : Event :=
  ((e.map fun s => s.withTrunk (s.trunk.dropLot id)).needExam).endLot id .cancelled none

/-! ### Gate commands (R35, R37, R39) -/

/-- An outlet record changed. -/
def State.updateOutlet (s : State) (o : Fin 9) (f : Outlet → Outlet) : State :=
  s.withOutlets (change s.outlets o f)

/-- A close command (R37). -/
def State.closeGate (s : State) (o : Fin 9) : State :=
  s.updateOutlet o fun x =>
    if s.inputs.gateClosed[o] then { x with gate := .closed, timer := .stopped, spill := false }
    else { x with gate := .closing, timer := .running x.closeTime }

/-- A gate enters FAULT: spill flag set, and a RESERVED open lot of the outlet returns to PENDING
with its flights EMPTY and its commitment removed (R38, R39). -/
def Event.faultGate (e : Event) (o : Fin 9) : Event :=
  let e1 := e.map fun s => s.updateOutlet o fun x =>
    { x with gate := .fault, timer := .stopped, spill := true }
  match e1.st.openLot (outletSource o) with
  | none => e1
  | some (id, l) =>
    if l.state = .reserved then
      (((e1.map fun s =>
          (s.withTrunk (s.trunk.dropLot id)).updateLot id fun l => { l with state := .pending }
        ).removeCommitment l.target.bin l.volume).map fun s => s.postLot id).needExam.needPass
    else e1

/-- The lowest offset of a lot's flights. -/
def State.lowestOffset (s : State) (id : Fin 32) : Option Nat := (s.trunk.lotOffsets id).head?

/-- A gate opens for its outlet's open lot when the lot is RESERVED and its lowest flight stands at
offset o + W or below, and the gate is CLOSED or CLOSING (R35). -/
def Event.openGate (e : Event) (o : Fin 9) : Event :=
  let s := e.st
  match s.openLot (outletSource o) with
  | none => e
  | some (id, l) =>
    match s.lowestOffset id with
    | none => e
    | some d =>
      if l.state = .reserved ∧ d ≤ s.outletOffset o + s.trunk.config.gateLead ∧
          (s.outlets[o].gate = .closed ∨ s.outlets[o].gate = .closing) then
        let e1 := e.map fun s =>
          ((s.updateOutlet o fun x => { x with gate := .isOpen, timer := .stopped, spill := true }
            ).updateLot id fun l => { l with state := .loading }).postLot id
        if l.source = .flush then e1.sludgeLoading id else e1
      else e

/-! ### Loading (R36) -/

/-- A lot that became IN_TRANSIT is counted in the working values of its cell's active job; a cell
with no active profile counts nothing (R175). -/
def State.countLot (s : State) (c : Fin 8) (volume : Nat) : State :=
  s.withCells (change s.cells c fun x =>
    if x.active.isSome then
      { x with working := { x.working with
          lots := min Config.max16 (x.working.lots + 1)
          volume := min Config.volumeMax (x.working.volume + volume) } }
    else x)

/-- A LOADING lot becomes IN_TRANSIT, with the effects R36 gives: notice, report to the cell
context unit; an open sludge lot that leaves the open states lets a held request be taken up
(R44). -/
def Event.enterTransit (e : Event) (id : Fin 32) : Event :=
  match e.st.intake.lots[id] with
  | none => e
  | some l =>
    let e1 := e.map fun s =>
      (s.updateLot id fun l => { l with state := .inTransit }).postLot id
    match l.source with
    | .cell c => e1.map fun s => s.countLot c l.volume
    | .flush => e1.takeUpHeld

/-- How many flights a lot has been loaded onto: those LOADED in the map and those already handed
to the crusher unit (R27, R60). -/
def State.loadedCount (s : State) (id : Fin 32) : Nat :=
  s.trunk.loadedInMap id +
    ((s.crusher.residents.find? fun r => r.lot == id).map Resident.entered).getD 0

/-! ### MIXED marking and its spread (R42, R43) -/

/-- A lot's commitment moved to bin 4; a lot already committed to bin 4 keeps it (R22, log 16). -/
def Event.retargetCommitment (e : Event) (l : Lot) : Event :=
  if l.state.isCommitted ∧ l.target.bin ≠ 4 then
    (e.map fun s => s.addCommitment 4 l.volume).removeCommitment l.target.bin l.volume
  else e

/-- MIXED marking of a lot (R42), by spill or by the spread. The second part of the result is
whether the lot was retargeted, so that the spread runs from it. -/
def Event.markMixed (e : Event) (id : Fin 32) (spill : Bool) : Event × Bool :=
  match e.st.intake.lots[id] with
  | none => (e, false)
  | some l =>
    if l.mixed then
      if spill && !l.spilledInto then
        (e.map fun s => (s.updateLot id fun l => { l with spilledInto := true }).postLot id, false)
      else (e, false)
    else if l.firstEntered then
      (e.map fun s => (s.updateLot id fun l =>
        { l with mixed := true, contaminated := true, spilledInto := l.spilledInto || spill }
        ).postLot id, false)
    else
      (((e.retargetCommitment l).map fun s => (s.updateLot id fun l =>
        { l with mixed := true, target := .reject, spilledInto := l.spilledInto || spill }
        ).postLot id).needExam.needPass, true)

/-- Whether lot `y` stands too close to lot `x` under another target: the clear count between their
nearest flights is below the lower lot's purge count plus D (R43). -/
def State.tooClose (s : State) (x y : Fin 32) : Bool :=
  match s.intake.lots[x], s.intake.lots[y] with
  | some lx, some ly =>
    let ox := s.trunk.lotOffsets x
    let oy := s.trunk.lotOffsets y
    match ox.head?, ox.getLast?, oy.head?, oy.getLast? with
    | some x0, some x1, some y0, some y1 =>
      let d := s.trunk.config.routingLead
      if lx.target = ly.target then false
      else if x0 < y0 then decide (s.trunk.clearCount x1 y0 < lx.purge + d)
      else decide (s.trunk.clearCount y1 x0 < ly.purge + d)
    | _, _, _, _ => false
  | _, _ => false

/-- One lot examined in the spread from `x`: marked when it is too close, and added to the lots the
spread runs from when it was retargeted (R43; the order of the lots is log 32). -/
def spreadTo (x : Fin 32) (acc : Event × List (Fin 32)) (y : Fin 32) : Event × List (Fin 32) :=
  if y ≠ x ∧ acc.1.st.tooClose x y then
    let r := acc.1.markMixed y false
    (r.1, if r.2 then acc.2 ++ [y] else acc.2)
  else acc

/-- The spread from each lot of the list (R43), breadth first and by rising lot id, an order the
spec does not give (log 32). Every lot joins the list at most once, since it
joins when it is first marked MIXED, so 32 rounds beyond the list end it. -/
def Event.spread : Nat → Event → List (Fin 32) → Event
  | _, e, [] => e
  | 0, e, _ :: _ => e
  | fuel + 1, e, x :: rest =>
    let r := (List.finRange 32).foldl (spreadTo x) (e, [])
    Event.spread fuel r.1 (rest ++ r.2)

/-- The rounds the spread may take: one for each lot id, twice over. -/
def spreadFuel : Nat := 64

/-! ### Outlet passings (R36, R41) -/

/-- The flight that passes an outlet whose gate is OPEN: a RESERVED flight of the outlet's LOADING
lot becomes LOADED, and the last one completes the loading (R36). -/
def Event.passOpen (e : Event) (o : Fin 9) (d : Nat) : Event :=
  match e.st.openLot (outletSource o) with
  | none => e
  | some (id, l) =>
    if l.state = .loading ∧ e.st.trunk.flight d = .reserved id then
      let e1 := e.map fun s => s.withTrunk (s.trunk.setFlight d (.loaded id))
      if e1.st.trunk.reservedCount id = 0 then (e1.map fun s => s.closeGate o).enterTransit id
      else e1
    else e

/-- The flight that passes a spilling outlet is marked (R41). The second part of the result lists
the lot from which the spread is to run. -/
def Event.passSpill (e : Event) (o : Fin 9) (d : Nat) : Event × List (Fin 32) :=
  match e.st.trunk.flight d with
  | .empty => (e.map fun s => s.withTrunk (s.trunk.setFlight d .untracked), [])
  | .untracked => (e, [])
  | .reserved x | .loaded x =>
    match e.st.intake.lots[x] with
    | none => (e, [])
    | some l =>
      if l.source = outletSource o then (e, [])
      else
        let r := e.markMixed x true
        (r.1, if r.2 then [x] else [])

/-- Whether an outlet spills: CLOSING, or FAULT with its spill flag set (R41). -/
def Outlet.spills (x : Outlet) : Bool := x.gate == .closing || (x.gate == .fault && x.spill)

/-- An outlet passing report (R4): the flight now at offset o - 1 is marked by the gate's state,
and then the gate is examined for opening. -/
def Event.passing (acc : Event × List (Fin 32)) (o : Fin 9) : Event × List (Fin 32) :=
  let e := acc.1
  if e.st.outletInUse o then
    let d := e.st.outletOffset o - 1
    if e.st.outlets[o].gate = .isOpen then ((e.passOpen o d).openGate o, acc.2)
    else if e.st.outlets[o].spills then
      let r := e.passSpill o d
      (r.1.openGate o, acc.2 ++ r.2)
    else (e.openGate o, acc.2)
  else acc

/-- The outlet passing reports of a pitch, then the spread from each lot marked (R4, R43). -/
def Event.passings (e : Event) : Event :=
  let r := (List.finRange 9).foldl Event.passing (e, [])
  r.1.spread spreadFuel r.2

/-! ### The pending pass (R29 to R33) -/

/-- The place of a rank in the order of R30, lowest first. -/
def Rank.order : Rank → Nat
  | .service => 0
  | .priority p => 8 - p

/-- The order of R30: SERVICE, then highest priority, then lowest stamp, then lowest id. -/
def lotBefore (a b : Fin 32 × Lot) : Bool :=
  decide (a.2.rank.order < b.2.rank.order) ||
  (decide (a.2.rank.order = b.2.rank.order) &&
    (decide (a.2.stamp < b.2.stamp) ||
      (decide (a.2.stamp = b.2.stamp) && decide (a.1.1 < b.1.1))))

/-- The lots in PENDING, in the order of R30. -/
def State.pendingLots (s : State) : List (Fin 32 × Lot) :=
  sortBy lotBefore ((List.finRange 32).filterMap fun i =>
    match s.intake.lots[i] with
    | some l => if l.state = .pending then some (i, l) else none
    | none => none)

/-- The bin condition of the window search (R31). -/
def State.binAccepts (s : State) (l : Lot) : Bool :=
  let b := s.bins[l.target.bin]
  if l.target.bin.1 < 4 then
    b.state == .inService &&
      decide (b.fill + b.committed + l.declared ≤ s.delivery.capacity[l.target.bin])
  else b.state == .inService || b.state == .full

/-- The material flights of the carrying run: offset, target, purge (R32). -/
def State.materials (s : State) : List (Nat × Target × Nat) :=
  (List.range s.trunk.config.carry).filterMap fun d =>
    (s.material (s.trunk.flight d)).map fun m => (d, m)

/-- R32, below the window: the clear count from each differing material flight below `w` is at
least its purge plus D. -/
def State.clearBelow (s : State) (l : Lot) (ms : List (Nat × Target × Nat)) (w : Nat) : Bool :=
  ms.all fun (p, t, purge) =>
    !(decide (p < w) && decide (t ≠ l.target)) ||
      decide (purge + s.trunk.config.routingLead ≤ s.trunk.clearCount p w)

/-- R32, above the window: the clear count to each differing material flight above the window's
last offset is at least the searching lot's purge plus D. -/
def State.clearAbove (s : State) (l : Lot) (ms : List (Nat × Target × Nat)) (w : Nat) : Bool :=
  let last := w + l.flights - 1
  ms.all fun (q, t, _) =>
    !(decide (last < q) && decide (t ≠ l.target)) ||
      decide (l.purge + s.trunk.config.routingLead ≤ s.trunk.clearCount last q)

/-- R32, across the window: a differing pair about the window that was clear stays clear. -/
def State.clearAcross (s : State) (l : Lot) (ms : List (Nat × Target × Nat)) (w : Nat) : Bool :=
  let last := w + l.flights - 1
  ms.all fun (p, tp, purge) =>
    !decide (p < w) || ms.all fun (q, tq, _) =>
      !(decide (last < q) && decide (tp ≠ tq)) ||
        (let need := purge + s.trunk.config.routingLead
         let clear := s.trunk.clearCount p q
         decide (clear < need) || decide (need + l.flights ≤ clear))

/-- Whether the window of `l.flights` flights from offset `w` is free and keeps the separation
(R31, R32). -/
def State.windowFits (s : State) (l : Lot) (w : Nat) : Bool :=
  (List.range l.flights).all (fun k => s.trunk.flight (w + k) == .empty) &&
  (s.clearBelow l s.materials w && s.clearAbove l s.materials w && s.clearAcross l s.materials w)

/-- The window search: the smallest start offset from o + W that meets every condition (R31). -/
def State.searchWindow (s : State) (l : Lot) : Option Nat :=
  let low := s.outletOffset l.source.outlet + s.trunk.config.gateLead
  if s.binAccepts l then
    (List.range (s.trunk.config.carry + 1 - l.flights)).find? fun w =>
      decide (low ≤ w) && s.windowFits l w
  else none

/-- The flights of a window made RESERVED. -/
def Trunk.reserve (t : Trunk) (id : Fin 32) (w n : Nat) : Trunk :=
  (List.range n).foldl (fun t k => t.setFlight (w + k) (.reserved id)) t

/-- A lot is reserved at a window; one that starts at o + W opens its gate at once (R33). -/
def Event.reserveLot (e : Event) (id : Fin 32) (l : Lot) (w : Nat) : Event :=
  let e1 := e.map fun s =>
    (((s.withTrunk (s.trunk.reserve id w l.flights)).updateLot id fun l =>
      { l with state := .reserved }).addCommitment l.target.bin l.declared).postLot id
  if w = e.st.outletOffset l.source.outlet + e.st.trunk.config.gateLead then
    e1.openGate l.source.outlet
  else e1

/-- One lot visited by the pass: passed over while its gate is in FAULT, reserved when a window is
found (R30). -/
def Event.visitLot (e : Event) (x : Fin 32 × Lot) : Event :=
  if e.st.outlets[x.2.source.outlet].gate = .fault then e
  else
    match e.st.searchWindow x.2 with
    | some w => e.reserveLot x.1 x.2 w
    | none => e

/-- The pending pass (R30). -/
def Event.pendingPass (e : Event) : Event := e.st.pendingLots.foldl Event.visitLot e

/-! ### A lost lot (R9) -/

/-- The crusher's part of a lost lot's ending (R9): the lot leaves the resident list, what it put
into the crusher is untracked material from then on, and a stopped drain timer is started. -/
def State.loseResident (s : State) (id : Fin 32) : State :=
  let c := s.crusher
  if c.residents.any fun r => r.lot == id then
    let full := 15 * s.trunk.config.pitchPeriod
    s.withCrusher { c with
      residents := c.residents.filter fun r => r.lot != id
      untracked := true
      allowance := if c.untracked then c.allowance else s.delivery.untrackedAllowance
      drain := match c.drain with
        | .stopped => if c.state = .running then .running full else .paused full
        | t => t }
  else s

/-- A lot that lost its place on the trunk (R9). -/
def Event.loseLot (e : Event) (id : Fin 32) : Event :=
  match e.st.intake.lots[id] with
  | none => e
  | some l =>
    let e1 := if l.state = .loading then e.map fun s => s.closeGate l.source.outlet else e
    ((e1.map fun s =>
      (s.loseResident id).withTrunk (s.trunk.dropLot id)).needExam).endLot id .lost none

end Sys2Proof.Machine
end

