-- ==== Sys2Proof/Machine/Filter.lean ====
section
/-! DEFINITION. The filter bank controller (chapter 5): selection, the examination of a sample set,
the ends of a flush; and the end of an event, with the evaluation it causes (R107, R109). -/

namespace Sys2Proof.Machine

/-! ### Selection (R93 to R95) -/

/-- The group of a waiting unit in the order of R94: forced, at or above dp_max, the rest. -/
def State.flushGroup (s : State) (u : Fin 6) : Nat :=
  let x := s.filter.units[u]
  if x.forced then 0 else if x.config.dpMax ≤ (s.unitDp u).value then 1 else 2

/-- The order of R94. -/
def State.candidateBefore (s : State) (a b : Fin 6) : Bool :=
  let ga := s.flushGroup a
  let gb := s.flushGroup b
  let da := (s.unitDp a).value
  let db := (s.unitDp b).value
  decide (ga < gb) || (decide (ga = gb) &&
    (decide (db < da) || (decide (da = db) && decide (a.1 < b.1))))

/-- The units in FLUSH_WAIT in the order of R94. -/
def State.candidates (s : State) : List (Fin 6) :=
  sortBy s.candidateBefore
    ((List.finRange 6).filter fun u => s.filter.units[u].state == .flushWait)

/-- The hypothetical headroom of a unit (section 5.4, R109). -/
def State.hypothetical (s : State) (u : Fin 6) : Int :=
  let r := s.balance.record
  (if u.1 < 4 then r.hTotal else r.hPolish) - r.avail[u]

/-- One candidate tried (R94). -/
def State.tryCandidate (s : State) (u : Fin 6) : LastCheck :=
  if s.flushGroup u < 2 then ⟨u, .exempt, some (s.hypothetical u)⟩
  else if s.balance.hold then ⟨u, .hold, none⟩
  else if 0 ≤ s.hypothetical u then ⟨u, .passed, some (s.hypothetical u)⟩
  else ⟨u, .failed, some (s.hypothetical u)⟩

/-- Whether an outcome selects the candidate (R94). -/
def CheckOutcome.selects : CheckOutcome → Bool
  | .exempt | .passed => true
  | _ => false

/-- The candidates tried in order until one is selected; the record of the last one tried, absent
when there is none (R94). -/
def State.tryAll (s : State) : List (Fin 6) → Option LastCheck
  | [] => none
  | u :: rest =>
    let r := s.tryCandidate u
    if r.outcome.selects then some r
    else
      match s.tryAll rest with
      | some x => some x
      | none => some r

/-- A unit becomes FLUSH_READY and takes the slot; the sludge request goes out, and the change is
then reported (R95). -/
def Event.selectUnit (e : Event) (u : Fin 6) : Event :=
  ((e.map fun s => s.withFilter { s.filter with
      units := change s.filter.units u fun x => { x with state := .flushReady }
      slot := some u }).requestSludge).needEval

/-- Selection (R93): it runs while the flush slot is absent and records the candidate last tried. -/
def Event.select (e : Event) : Event :=
  if e.st.filter.slot.isSome then e
  else
    match e.st.tryAll e.st.candidates with
    | none => e
    | some r =>
      let e1 := e.map fun s => s.withFilter { s.filter with lastCheck := some r }
      if r.outcome.selects then e1.selectUnit r.unit else e1

/-! ### The end of an event (log 7) -/

/-- The examination and the pending pass that the event has caused. -/
def Event.passes (e : Event) : Event :=
  let e1 := if e.exam then { e with st := e.st.examine, exam := false } else e
  if e1.pass then { e1 with pass := false }.pendingPass else e1

/-- An evaluation, and in OPERATING its handling by the grant arbiter (R108, R109). -/
def State.evaluate (s : State) (stepExpiry : Bool) : State :=
  if s.operating then s.evaluateBalance.handleResult stepExpiry else s.evaluateBalance

/-- What stands when the effects of an event have ended: the state after the grant arbiter's first
handling, from which a reply takes its outcome (R128, log 22), and the state at the end. -/
structure Settled where
  handled : State
  final : State

/-- The second evaluation of an event whose selection changed a unit's state (R95); it selects
nothing, since the slot is then held. -/
def Event.afterSelection (e : Event) : State :=
  let p := e.passes
  if p.eval then p.st.evaluate false else p.st

/-- The end of an event: examination, pending pass, evaluation with its handling and selection.
`stepExpiry` says that the event is the expiry of the step timer (R138). -/
def Event.settleAs (e : Event) (stepExpiry : Bool) : Settled :=
  let p := e.passes
  if p.eval then
    let h := p.st.evaluate stepExpiry
    ⟨h, if h.operating then (Event.of h).select.afterSelection else h⟩
  else ⟨p.st, p.st⟩

/-- The state at the end of an event other than the step timer's expiry. -/
def Event.settle (e : Event) : State := (e.settleAs false).final

/-! ### Sample sets (R91, R99) -/

/-- One unit examined at a sample set: the post-flush check where it is set (R99), otherwise the
entry into the flush queue (R91). -/
def FilterUnit.atSet (u : FilterUnit) (dp : Channel) : FilterUnit :=
  if u.state = .online ∧ !dp.held then
    if u.postCheck then
      if dp.value < u.config.dpFlush then { u with postCheck := false }
      else { u with postCheck := false, state := .fault }
    else if u.config.dpFlush ≤ dp.value then { u with state := .flushWait }
    else u
  else u

/-- Every unit examined at a sample set. -/
def State.filterAtSet (s : State) : State :=
  s.withFilter { s.filter with
    units := Vector.ofFn fun u : Fin 6 => s.filter.units[u].atSet (s.unitDp u) }

/-! ### Changes of a unit's state -/

/-- A filter unit's record changed. -/
def State.updateUnit (s : State) (u : Fin 6) (f : FilterUnit → FilterUnit) : State :=
  s.withFilter { s.filter with units := change s.filter.units u f }

/-- The slot given up where the unit holds it (R88). -/
def State.freeSlot (s : State) (u : Fin 6) : State :=
  if s.filter.slot = some u then s.withFilter { s.filter with slot := none } else s

/-- The rise of flush-done (R98). -/
def State.flushDoneRise (s : State) (u : Fin 6) : Event :=
  if s.filter.units[u].state = .flushing then
    ((Event.of s).map fun s => (s.updateUnit u fun x =>
      { x with state := .online, timer := .stopped, postCheck := true }).freeSlot u).needEval
  else Event.of s

/-- The expiry of a unit's flush timer (R100). -/
def State.flushExpiry (s : State) (u : Fin 6) : Event :=
  if s.filter.units[u].timer.isRunning then
    ((Event.of s).map fun s => (s.updateUnit u fun x =>
      { x with state := .fault, timer := .stopped }).freeSlot u).needEval
  else Event.of s

/-- The withdrawal of the sludge request of a unit that was FLUSH_READY (R28, R45, R101): a held
request is discarded, an open sludge lot in PENDING or RESERVED is cancelled. -/
def Event.withdrawSludge (e : Event) : Event :=
  let e1 := e.map fun s => s.withIntake { s.intake with held := none }
  match e1.st.openLot .flush with
  | none => e1
  | some (id, l) => if l.state = .loading then e1 else e1.cancelLot id

/-- A unit taken OFFLINE (R101). -/
def State.takeOffline (s : State) (u : Fin 6) : Event :=
  let ready := s.filter.units[u].state == .flushReady
  let e := ((Event.of s).map fun s => (s.updateUnit u fun x =>
    { x with state := .offline, forced := false, postCheck := false }).freeSlot u).needEval
  if ready then e.withdrawSludge else e

end Sys2Proof.Machine
end

