-- ==== Sys2Proof/Machine/Operands.lean ====
section
/-! DEFINITION. The operand checks of the requests: bytes that stand for a flag, an optional field,
a number or a name, and the ranges of the configuration records. -/

namespace Sys2Proof.Machine

/-- `lo ≤ x ≤ hi`. -/
def within (lo hi x : Nat) : Bool := decide (lo ≤ x) && decide (x ≤ hi)

/-- A flag, enable, mask or yes-or-no byte: 1 or 0, any other value is refused (R179). -/
def flagOf (b : Nat) : Option Bool :=
  if b = 0 then some false else if b = 1 then some true else none

/-- An optional field: presence byte and value (R179). With presence byte 0 the value is not looked
at, also where its bytes are not the zeros R179 gives an absent field: the model's choice (DESIGN
CHOICE, unsafe, log 38). -/
def optionalOf (presence value : Nat) : Option (Option Nat) :=
  if presence = 0 then some none else if presence = 1 then some (some value) else none

/-- A number as an index below `n`, absent when it is out of range. -/
def indexOf (n x : Nat) : Option (Fin n) :=
  if h : x < n then some ⟨x, h⟩ else none

/-- A routing mode sent as its position (R179). -/
def modeOf (b : Nat) : Option Mode :=
  if b = 0 then some .crush else if b = 1 then some .bypass else none

/-- Bit `i` of a selection (R179). -/
def selected (selection i : Nat) : Bool := selection.testBit i

/-- The ranges of R2. -/
def trunkConfigOk (c : TrunkConfig) : Bool :=
  within 16 192 c.carry && within 40 600 c.beltLength && within 2 4 c.routingLead &&
  within 1 8 c.gateLead && within 4 191 c.flushOffset && within 0 3 c.tolerance &&
  within 0 65535 c.overloadLimit && within 1 20 c.overloadSets && within 5 200 c.flightCapacity &&
  within 200 5000 c.pitchPeriod

/-- The ranges of R49. -/
def deliveryConfigOk (c : DeliveryConfig) : Bool :=
  c.capacity.toList.all (within 100 60000) && within 0 65535 c.jamThreshold &&
  within 1 10 c.jamSets && within 1 7 c.untrackedAllowance && within 500 10000 c.reverseTime &&
  within 500 5000 c.probeTime && within 500 10000 c.routingTime

/-- The ranges of R76, with the two auto-clear bytes read; absent when a check fails. -/
def sensorConfigOf (c : SensorConfigWrite) : Option SensorConfig :=
  match flagOf c.cleanAutoClear, flagOf c.dirtyAutoClear with
  | some ca, some da =>
    if (List.finRange 14).all (fun i =>
          decide (c.spans[i].lo ≤ c.spans[i].hi) && decide (c.spans[i].hi ≤ channelTop[i])) &&
        within 150 2000 c.staleness && within 1 500 c.cleanTolerance &&
        within 1 500 c.dirtyTolerance then
      some ⟨c.spans, c.staleness, c.cleanTolerance, c.dirtyTolerance, ca, da⟩
    else none
  | _, _ => none

/-- The ranges of R89. -/
def unitConfigOk (c : UnitConfig) : Bool :=
  within 0 65535 c.ratedFlow && within 0 1000 c.dpClean && within 0 1000 c.dpMax &&
  within 0 1000 c.dpFlush && within 5 900 c.flushTime

/-- The ranges of R90. -/
def sludgeSettingsOk (c : SludgeSettings) : Bool :=
  within 1 8 c.flights && within 0 65535 c.volume && within 100 5000 c.closeTime

/-- The ranges of R106 and its relation V_lowlow no greater than V_low. -/
def tankConfigOk (c : TankConfig) : Bool :=
  within 1 10000 c.cleanArea && within 1 10000 c.dirtyArea && within 0 400000 c.vLow &&
  within 0 400000 c.vLowLow && within 0 400000 c.vDirtyHigh && within 60 1800 c.horizon &&
  within 0 5000 c.margin && decide (c.vLowLow ≤ c.vLow)

/-- The ranges of R123. -/
def supplyConfigOk (c : SupplyConfig) : Bool :=
  within 200 10000 c.settleTime && within 0 1000 c.hpLow && within 0 1000 c.floodLow

/-- The ranges of R164, with floor no greater than flood_max; absent when a check fails. -/
def cellConfigOf (c : CellConfigWrite) : Option CellConfig :=
  match flagOf c.enabled with
  | none => none
  | some en =>
    if within 4 191 c.outletOffset && within 100 5000 c.closeTime && within 0 65535 c.floodMax &&
        within 0 65535 c.hpMax && decide (c.floor ≤ c.floodMax) &&
        within 500 10000 c.linkTimeout then
      some ⟨en, c.outletOffset, c.closeTime, c.floodMax, c.hpMax, c.floor, c.linkTimeout⟩
    else none

/-- The values of R150; absent when a field is outside them. -/
def recipeOf (c : RecipeWrite) : Option Recipe :=
  match indexOf 4 c.bin, modeOf c.mode, flagOf c.hpPermitted with
  | some b, some m, some p =>
    if within 0 15 c.purge && within 1 7 c.jamAllowance && within 1 16 c.maxFlights then
      some ⟨b, m, c.purge, c.jamAllowance, p, c.maxFlights⟩
    else none
  | _, _, _ => none

end Sys2Proof.Machine
end

