-- ==== Sys2Proof/Machine/Stores.lean ====
section
/-! DEFINITION. The recipe store and the profile store (chapter 8): lookups, preset lists, the
operations on a profile, and the station's writes. -/

namespace Sys2Proof.Machine

/-! ### Recipe lookup (R151) -/

/-- A recipe lookup by group and index; absent where it fails with NO_RECIPE (R151). -/
def RecipeStore.lookup (r : RecipeStore) (g : Fin 16) (i : Nat) : Option Recipe :=
  let grp := r.groups[g]
  if i < grp.count then
    match indexOf 128 (grp.base + i) with
    | some k => some r.recipes[k]
    | none => none
  else none

/-- The derived job facts of a recipe and a priority (R151). -/
def Recipe.facts (r : Recipe) (priority : Nat) : JobFacts where
  target := ⟨⟨r.bin.1, Nat.lt_succ_of_lt r.bin.2⟩, r.mode⟩
  purge := r.purge
  jamAllowance := r.jamAllowance
  hpPermitted := r.hpPermitted
  maxFlights := r.maxFlights
  priority := priority

/-! ### Preset lists (R153, R154) -/

/-- A value block of a preset list: its first output and its values. -/
structure Block where
  first : Nat
  values : List Byte
  deriving DecidableEq, Repr

/-- A valid list: its value blocks and the address of its end mark. -/
structure PresetList where
  blocks : List Block
  last : Nat
  deriving DecidableEq, Repr

/-- The bytes of a run of addresses. -/
def Memory.readRun (m : List Host.Cell) (a n : Nat) : List Byte :=
  (List.range n).map fun k => Memory.read m (a + k)

/-- The walk of a preset list from an address, with the number of value blocks it may still take;
absent at the first fault of R154. -/
def walkList (m : List Host.Cell) : Nat → Nat → Option PresetList
  | room, a =>
    if presetSize ≤ a then none
    else
      let count := (Memory.read m a).toNat
      if count = 0 then some ⟨[], a⟩
      else
        match room with
        | 0 => none
        | room + 1 =>
          let first := (Memory.read m (a + 1)).toNat
          if 8 < count ∨ presetSize ≤ a + 1 + count ∨ 7 < first ∨ 8 < first + count then none
          else
            match walkList m room (a + count + 2) with
            | none => none
            | some l => some { l with
                blocks := ⟨first, Memory.readRun m (a + 2) count⟩ :: l.blocks }

/-- The greatest number of value blocks of a list (R154). -/
def maxBlocks : Nat := 16

/-- The preset list at a start address, absent where it is not valid (R154). -/
def presetList (m : List Host.Cell) (start : Nat) : Option PresetList := walkList m maxBlocks start

/-- The aux outputs after one value block (R170). -/
def applyBlock (aux : Vector Byte 8) (b : Block) : Vector Byte 8 :=
  Vector.ofFn fun i : Fin 8 =>
    if b.first ≤ i.1 then b.values.getD (i.1 - b.first) aux[i] else aux[i]

/-- The aux outputs after the blocks of a list, in order (R170). -/
def applyBlocks (aux : Vector Byte 8) (bs : List Block) : Vector Byte 8 := bs.foldl applyBlock aux

/-- The preset list at a profile's start applied to aux outputs; a list was valid when its profile
was written, and its bytes are protected since (R157), so an invalid one does not arise and changes
nothing (log 20). -/
def ProfileStore.apply (p : ProfileStore) (start : Nat) (aux : Vector Byte 8) : Vector Byte 8 :=
  match presetList p.memory start with
  | some l => applyBlocks aux l.blocks
  | none => aux

/-! ### Operations on a profile (R158 to R160) -/

/-- Whether PRESETS is set: the preset start is present if and only if it is (R152). -/
def Profile.presets (p : Profile) : Bool := p.presetStart.isSome

/-- A half with a job's working values written into it, the aux snapshot where PRESETS is set
(R159, R160). -/
def Half.save (h : Half) (w : Working) (aux : Vector Byte 8) (presets : Bool) : Half where
  flood := w.flood
  hp := w.hp
  lots := w.lots
  volume := w.volume
  aux := if presets then aux else h.aux

/-- The working values of a half. -/
def Half.working (h : Half) : Working := ⟨h.flood, h.hp, h.lots, h.volume⟩

/-- The suspension of a profile's job (R159). -/
def Profile.suspend (p : Profile) (w : Working) (aux : Vector Byte 8) : Profile :=
  if p.keep then { p with save := p.save.save w aux p.presets, saveValid := true }
  else { p with initial := p.initial.save w aux p.presets }

/-- The half a resumed job is loaded from: the save half of a KEEP profile whose save half is valid,
the initial half otherwise (R159, R172). -/
def Profile.resumeHalf (p : Profile) : Half := if p.keep && p.saveValid then p.save else p.initial

/-- The finish of a profile whose job has ended (R160). -/
def Profile.finish (p : Profile) (w : Working) (aux : Vector Byte 8) : Profile :=
  if p.keep then { p with saveValid := false, owner := none }
  else { p with initial := p.initial.save w aux p.presets, owner := none }

/-- The drop of a profile (R160). -/
def Profile.drop (p : Profile) : Profile := { p with owner := none, saveValid := false }

/-- A profile's record changed, where it is defined. -/
def State.updateProfile (s : State) (p : Fin 64) (f : Profile → Profile) : State :=
  match s.profiles.profiles[p] with
  | none => s
  | some x => s.withProfiles { s.profiles with profiles := put s.profiles.profiles p (some (f x)) }

/-! ### The station's writes -/

/-- A half with every field 0 (R155). -/
def Half.zero : Half := ⟨0, 0, 0, 0, Vector.replicate 8 0⟩

/-- The fields of a WRITE_PROFILE that pass order 1 of R155. -/
structure ProfileFields where
  group : Fin 16
  recipeIndex : Nat
  priority : Nat
  keep : Bool
  presetStart : Option Nat

/-- The fields read; absent where order 1 of R155 refuses them. The preset start is read only if
PRESETS is set. -/
def profileFieldsOf (c : ProfileWrite) : Option ProfileFields :=
  match indexOf 16 c.group, flagOf c.keep, flagOf c.presets with
  | some g, some k, some p =>
    if c.recipeIndex ≤ 31 ∧ c.priority ≤ 7 ∧ (p = false ∨ c.presetStart < presetSize) then
      some ⟨g, c.recipeIndex, c.priority, k, if p then some c.presetStart else none⟩
    else none
  | _, _, _ => none

/-- The profile a WRITE_PROFILE makes (R155). -/
def ProfileFields.profile (f : ProfileFields) (c : ProfileWrite) : Profile where
  group := f.group
  recipeIndex := f.recipeIndex
  priority := f.priority
  keep := f.keep
  presetStart := f.presetStart
  initial := ⟨c.flood, c.hp, 0, 0, c.aux⟩
  save := .zero
  saveValid := false
  owner := none

/-- The extent a WRITE_PROFILE gives its profile: `none` where the list is not valid (R154, R155). -/
def ProfileStore.extentFor (p : ProfileStore) (start : Option Nat) : Option (Option Extent) :=
  match start with
  | none => some none
  | some a => (presetList p.memory a).map fun l => some ⟨a, l.last⟩

/-- Whether a profile has an owner. -/
def ProfileStore.isOwned (p : ProfileStore) (i : Fin 64) : Bool :=
  match p.profiles[i] with
  | some x => x.owner.isSome
  | none => false

/-- Whether an address lies within some extent (R157). -/
def ProfileStore.isProtected (p : ProfileStore) (a : Nat) : Bool :=
  p.extents.toList.any fun x =>
    match x with
    | some e => decide (e.first ≤ a) && decide (a ≤ e.last)
    | none => false

/-- A WRITE_GROUP (R149). -/
def State.writeGroup (s : State) (group base count : Nat) : State × Verdict :=
  if s.part = .operating then (s, .refused .busy)
  else
    match indexOf 16 group with
    | none => (s, .refused .badValue)
    | some g =>
      if 127 < base ∨ 32 < count ∨ 128 < base + count then (s, .refused .badValue)
      else (s.withRecipes { s.recipes with groups := put s.recipes.groups g ⟨base, count⟩ },
        .accepted)

/-- A WRITE_RECIPE (R150). -/
def State.writeRecipe (s : State) (recipe : Nat) (c : RecipeWrite) : State × Verdict :=
  if s.part = .operating then (s, .refused .busy)
  else
    match indexOf 128 recipe, recipeOf c with
    | some i, some r =>
      (s.withRecipes { s.recipes with recipes := put s.recipes.recipes i r }, .accepted)
    | _, _ => (s, .refused .badValue)

/-- A WRITE_PRESETS (R157). -/
def State.writePresets (s : State) (start : Nat) (run : List Byte) : State × Verdict :=
  if run = [] ∨ 44 < run.length ∨ presetSize ≤ start ∨ presetSize < start + run.length then
    (s, .refused .badValue)
  else if (List.range run.length).any fun k => s.profiles.isProtected (start + k) then
    (s, .refused .inUse)
  else (s.withProfiles { s.profiles with
    memory := Memory.writeRun s.profiles.memory start run }, .accepted)

/-- A WRITE_PROFILE (R155). -/
def State.writeProfile (s : State) (profile : Nat) (c : ProfileWrite) : State × Verdict :=
  match indexOf 64 profile, profileFieldsOf c with
  | some i, some f =>
    if s.profiles.isOwned i then (s, .refused .inUse)
    else
      match s.profiles.extentFor f.presetStart with
      | none => (s, .refused .badPreset)
      | some x => (s.withProfiles { s.profiles with
          profiles := put s.profiles.profiles i (some (f.profile c))
          extents := put s.profiles.extents i x }, .accepted)
  | _, _ => (s, .refused .badValue)

/-- An ERASE_PROFILE (R156). -/
def State.eraseProfile (s : State) (profile : Nat) : State × Verdict :=
  match indexOf 64 profile with
  | none => (s, .refused .badValue)
  | some i =>
    if s.profiles.isOwned i then (s, .refused .inUse)
    else (s.withProfiles { s.profiles with
      profiles := put s.profiles.profiles i none
      extents := put s.profiles.extents i none }, .accepted)

end Sys2Proof.Machine
end

