-- ==== Sys2Proof/Machine/Cells.lean ====
section
/-! DEFINITION. The cell context unit (chapter 9) and the cells' requests: link state, coolant
requests (section 7.3), discharges (section 2.2), jobs and their nesting. A served cell request
gives the state at the end of its handling and the verdict of its reply. -/

namespace Sys2Proof.Machine

/-- A cell's record changed. -/
def State.updateCell (s : State) (c : Fin 8) (f : CellRecord → CellRecord) : State :=
  s.withCells (change s.cells c f)

/-! ### Link state (R165, R166) -/

/-- A well-formed frame received on a cell's port (R165). -/
def CellRecord.hear (x : CellRecord) : CellRecord :=
  { x with
    link := .linked
    linkTimer := .running x.config.linkTimeout
    restored := x.restored || x.link == .lost }

/-- The loss of a cell's link: HP withdrawn (R145), a PENDING open lot cancelled (R28, R166). -/
def Event.loseLink (e : Event) (c : Fin 8) : Event :=
  let e1 := e.map fun s => State.dropHp .linkLost s c
  match e1.st.openLot (.cell c) with
  | some (id, l) => if l.state = .pending then e1.cancelLot id else e1
  | none => e1

/-- The expiry of a cell's link timer (R165). -/
def State.linkExpiry (s : State) (c : Fin 8) : Event :=
  if s.cells[c].linkTimer.isRunning then
    ((Event.of s).map fun s => s.updateCell c fun x =>
      { x with link := .lost, linkTimer := .stopped }).loseLink c
  else Event.of s

/-! ### Job state -/

/-- Whether a cell has a job (R163). -/
def State.hasJob (s : State) (c : Fin 8) : Bool :=
  s.cells[c].state == .running || s.cells[c].state == .paused

/-! ### Coolant requests (R126 to R128) -/

/-- The bound of a cell's grants of a kind (R124). -/
def CellConfig.bound (x : CellConfig) : ValveKind → Nat
  | .flood => x.floodMax
  | .hp => x.hpMax

/-- A demand stored in the working values (R126). -/
def Working.setDemand (w : Working) (k : ValveKind) (v : Nat) : Working :=
  match k with
  | .flood => { w with flood := v }
  | .hp => { w with hp := v }

/-- A demand stored in a cell's working values (R126). -/
def State.storeDemand (s : State) (c : Fin 8) (k : ValveKind) (v : Nat) : State :=
  s.updateCell c fun x => { x with working := x.working.setDemand k v }

/-- The refusals of R126, in its order. -/
def State.coolantRefusal (s : State) (c : Fin 8) (k : ValveKind) : Option Reason :=
  if s.part = .config then some .notReady
  else if !s.hasJob c then some .noJob
  else if k = .hp ∧ (s.cells[c].facts.any fun f => !f.hpPermitted) then some .hpBarred
  else if k = .hp ∧ s.grants.hpFault then some .hpFault
  else none

/-- ADJUSTED where a clamp changed a value, ACCEPTED otherwise. -/
def clampVerdict (clamped : Bool) : Verdict := if clamped then .adjusted else .accepted

/-- The verdict of a request entered as pending, from the handling that followed (R128). `before` is
the commanded grant at its entry. -/
def Valve.outcome (v : Valve) (before : Nat) (clamped : Bool) : Verdict :=
  match v.pending with
  | none => clampVerdict clamped
  | some p => if before < v.commanded then .reduced else .waiting p.bound

/-- A decrease by the cell's own request, or a cancellation of its pending request (R127); it is an
evaluation trigger where it changes something (log 14). -/
def State.lowerGrant (s : State) (c : Fin 8) (k : ValveKind) (v : Nat) : State :=
  let old := s.valve c k
  let s1 := s.commandValve c k v
  let s2 := if v < old.commanded then s1.postGrant c .requested else s1
  let e := Event.of (s2.clearRequest c k)
  (if v < old.commanded ∨ old.pending.isSome then e.needEval else e).settle

/-- An increase asked for: the pending request replaced, the evaluation and its handling, and the
outcome (R127, R128). -/
def State.raiseGrant (s : State) (c : Fin 8) (k : ValveKind) (v : Nat) (clamped : Bool) :
    State × Verdict :=
  let before := (s.valve c k).commanded
  let s1 := (s.setRequest c k (newRequest v s.grants.stamp)).takeStamp
  let r := ((Event.of s1).needEval).settleAs false
  (r.final, (r.handled.valve c k).outcome before clamped)

/-- SET_FLOOD and SET_HP (R126, R127). -/
def State.setCoolant (s : State) (c : Fin 8) (k : ValveKind) (flow : Nat) : State × Verdict :=
  match s.coolantRefusal c k with
  | some r => (s, .refused r)
  | none =>
    let v := min flow (s.cells[c].config.bound k)
    let clamped := decide (v < flow)
    let s1 := s.storeDemand c k v
    if s.cells[c].state = .paused ∨ (k = .hp ∧ s.cells[c].link ≠ .linked) then
      (s1, clampVerdict clamped)
    else if v ≤ (s.valve c k).commanded then (s1.lowerGrant c k v, clampVerdict clamped)
    else s1.raiseGrant c k v clamped

/-! ### Discharges (R24 to R27) -/

/-- The refusals of R24, in its order. -/
def State.dischargeRefusal (s : State) (c : Fin 8) (flights notify : Nat) : Option Reason :=
  if s.part = .config then some .notReady
  else if flights = 0 ∨ flagOf notify = none then some .badValue
  else if !s.hasJob c then some .noJob
  else if (s.openLot (.cell c)).isSome then some .busy
  else if s.outlets[(Source.cell c).outlet].gate = .fault then some .gateFault
  else if s.freeIds.isEmpty ∨ s.intake.held.isSome then some .lotsFull
  else none

/-- The record of a new lot of a cell (R20, R25). -/
def cellLot (c : Fin 8) (f : JobFacts) (flights volume : Nat) (notify : Bool) : Lot where
  source := .cell c
  flights := flights
  declared := volume
  actual := none
  target := f.target
  purge := f.purge
  jamAllowance := f.jamAllowance
  rank := .priority f.priority
  stamp := 0
  notify := notify
  state := .pending
  mixed := false
  short := false
  spilledInto := false
  contaminated := false
  firstEntered := false

/-- DISCHARGE (R24, R25). A cell with a job has its facts (R163). -/
def State.discharge (s : State) (c : Fin 8) (flights volume notify : Nat) : State × Verdict :=
  match s.dischargeRefusal c flights notify, s.cells[c].facts with
  | some r, _ => (s, .refused r)
  | none, none => (s, .refused .noJob)
  | none, some f =>
    let n := min flights f.maxFlights
    let v := min volume (n * s.trunk.config.flightCapacity)
    let clamped := decide (n < flights) || decide (v < volume)
    (((Event.of s).map fun s => s.createLot (cellLot c f n v (notify == 1))).needPass.settle,
      clampVerdict clamped)

/-- The flights of a LOADING lot at DISCHARGE_END (R27): RESERVED ones above the outlet become
EMPTY, one at the outlet becomes LOADED. -/
def Trunk.cutLoading (t : Trunk) (id : Fin 32) (o : Nat) : Trunk :=
  (t.lotOffsets id).foldl (fun t d =>
    if t.flight d = .reserved id then
      if d = o then t.setFlight d (.loaded id)
      else if o < d then t.setFlight d .empty
      else t
    else t) t

/-- The actual volume a shortened lot records: no more than the declared volume (R27). -/
def Lot.cutActual (l : Lot) (given : Option Nat) : Option Nat := given.map fun v => min v l.declared

/-- A LOADING lot shortened to the flights it loaded (R27, at least one flight). -/
def Event.shorten (e : Event) (id : Fin 32) (l : Lot) (count : Nat) (given : Option Nat) : Event :=
  let actual := l.cutActual given
  let e1 := e.map fun s => (s.closeGate l.source.outlet).updateLot id fun l =>
    { l with flights := count, short := true, actual := actual }
  let e2 :=
    match actual with
    | some v => e1.removeCommitment l.target.bin (l.declared - v)
    | none => e1
  e2.enterTransit id

/-- DISCHARGE_END on a LOADING lot (R27). -/
def Event.endDischarge (e : Event) (id : Fin 32) (l : Lot) (given : Option Nat) : Event :=
  let e1 := e.map fun s =>
    s.withTrunk (s.trunk.cutLoading id (s.outletOffset l.source.outlet))
  let count := e1.st.loadedCount id
  (if 1 ≤ count then e1.shorten id l count given
   else (e1.map fun s => s.closeGate l.source.outlet).endLot id .cancelled none).needPass.needExam

/-- Whether DISCHARGE_END records the declared volume in place of a greater actual volume (R27). -/
def Lot.isCut (l : Lot) (given : Option Nat) : Bool :=
  given.any fun v => decide (l.declared < v)

/-- DISCHARGE_END (R26, R27). -/
def State.dischargeEnd (s : State) (c : Fin 8) (presence volume : Nat) : State × Verdict :=
  if s.part = .config then (s, .refused .notReady)
  else
    match optionalOf presence volume, s.openLot (.cell c) with
    | none, _ => (s, .refused .badValue)
    | some _, none => (s, .refused .sequence)
    | some given, some (id, l) =>
      if l.state = .loading then
        let e := (Event.of s).endDischarge id l given
        let wasCut := l.isCut given &&
          decide (1 ≤ (s.withTrunk (s.trunk.cutLoading id
            (s.outletOffset l.source.outlet))).loadedCount id)
        (e.settle, clampVerdict wasCut)
      else (((Event.of s).cancelLot id).settle, .accepted)

/-! ### Setting up a job (R167 to R172) -/

/-- The recipe a profile finds (R151). -/
def State.recipeOf (s : State) (p : Profile) : Option Recipe :=
  s.recipes.lookup p.group p.recipeIndex

/-- The HP demand taken at a start: 0 where the recipe bars HP (R167). -/
def Recipe.startHp (r : Recipe) (hp : Nat) : Nat := if r.hpPermitted then hp else 0

/-- Whether a start takes an HP demand above 0 as 0 (R167, R169). -/
def Recipe.barsDemand (r : Recipe) (p : Profile) : Bool :=
  !r.hpPermitted && decide (0 < p.initial.hp)

/-- The refusals of R167 that need only the cell, in its order up to order 4. -/
def State.startRefusal (s : State) (c : Fin 8) (profile : Nat) : Option Reason :=
  if s.part = .config then some .notReady
  else if 64 ≤ profile then some .badValue
  else if s.cells[c].state = .disabled then some .disabled
  else if s.cells[c].state = .paused then some .busy
  else none

/-- The refusals of R167 from order 6 on, for a defined profile and its lookup. -/
def State.startRefusalFor (s : State) (c : Fin 8) (p : Profile) : Option Reason :=
  let x := s.cells[c]
  if p.owner.isSome then some .inUse
  else if x.state = .running ∧ 3 ≤ x.stack.length then some .stackFull
  else
    match s.recipeOf p with
    | none => some .noRecipe
    | some r =>
      if x.config.floodMax < p.initial.flood ∨ x.config.hpMax < r.startHp p.initial.hp then
        some .bounds
      else if (s.openLot (.cell c)).isSome then some .lotOpen
      else none

/-- The running job of a cell suspended (R168). -/
def State.suspend (s : State) (c : Fin 8) : State :=
  let x := s.cells[c]
  match x.active with
  | none => s
  | some j =>
    ((s.updateProfile j fun p => p.suspend x.working x.aux).updateCell c fun x =>
      { x with stack := x.stack ++ [j], active := none, facts := none }).withdraw c

/-- A cell's aux outputs at a start: the preset list applied where PRESETS is set (R169). -/
def State.startAux (s : State) (p : Profile) (aux : Vector Byte 8) : Vector Byte 8 :=
  match p.presetStart with
  | some a => s.profiles.apply a aux
  | none => aux

/-- A cell's aux outputs at a resumption: the snapshot restored and the list applied over it where
PRESETS is set (R170). -/
def State.resumeAux (s : State) (p : Profile) (aux : Vector Byte 8) : Vector Byte 8 :=
  match p.presetStart with
  | some a => s.profiles.apply a p.resumeHalf.aux
  | none => aux

/-- The job of profile p set up in a cell, up to the request of its demands (R169, steps 1 to 5). -/
def State.setUp (s : State) (c : Fin 8) (i : Fin 64) (p : Profile) (r : Recipe) : State :=
  (s.updateProfile i fun p => { p with owner := some c }).updateCell c fun x =>
    { x with
      working := { p.initial.working with hp := r.startHp p.initial.hp }
      facts := some (r.facts p.priority)
      aux := s.startAux p x.aux
      active := some i
      state := .running }

/-- The suspended job of profile q resumed in a cell, up to the request of its demands (R172, steps
1 to 5). The lookup found a recipe when the job started, and finds the same one (R150); a lookup
that fails does not arise and leaves no facts (log 20). -/
def State.resume (s : State) (c : Fin 8) (i : Fin 64) (q : Profile) : State :=
  s.updateCell c fun x =>
    { x with
      working := q.resumeHalf.working
      facts := (s.recipeOf q).map fun r => r.facts q.priority
      aux := s.resumeAux q x.aux
      active := some i
      state := .running
      stack := x.stack.dropLast }

/-- The outcome of one entered demand after the handling: waiting wholly, in part, or served. -/
def State.demandOutcome (s : State) (c : Fin 8) (k : ValveKind) (entered : Bool) (before : Nat) :
    Verdict :=
  if entered then (s.valve c k).outcome before false else .accepted

/-- The single outcome of a demand request (R129), from those of its two valves. -/
def joinOutcomes (flood hp : Verdict) : Verdict :=
  match flood, hp with
  | .waiting b, _ => .waiting b
  | _, .waiting b => .waiting b
  | .reduced, _ => .reduced
  | _, _ => .accepted

/-- The demands requested at a job change, with the evaluation it triggers and the outcome (R129,
R169). -/
def Event.startDemands (e : Event) (c : Fin 8) : State × Verdict :=
  let s := e.st
  let entered := s.demandsEntered c
  let r := ((e.map fun s => s.requestDemands c).needEval).settleAs false
  (r.final, joinOutcomes
    (r.handled.demandOutcome c .flood entered.1 (s.valve c .flood).commanded)
    (r.handled.demandOutcome c .hp entered.2 (s.valve c .hp).commanded))

/-- The reply status of a start (R169): ADJUSTED in place of ACCEPTED where the HP demand was taken
as 0. -/
def startVerdict (outcome : Verdict) (barred : Bool) : Verdict :=
  if outcome = .accepted ∧ barred then .adjusted else outcome

/-- START_JOB (R167 to R169). -/
def State.startJob (s : State) (c : Fin 8) (profile : Nat) : State × Verdict :=
  match s.startRefusal c profile, indexOf 64 profile with
  | some r, _ => (s, .refused r)
  | none, none => (s, .refused .badValue)
  | none, some i =>
    match s.profiles.profiles[i] with
    | none => (s, .refused .noProfile)
    | some p =>
      match s.startRefusalFor c p, s.recipeOf p with
      | some r, _ => (s, .refused r)
      | none, none => (s, .refused .noRecipe)
      | none, some r =>
        let s1 := if s.cells[c].state = .running then s.suspend c else s
        let x := (Event.of (s1.setUp c i p r)).startDemands c
        (x.1, startVerdict x.2 (r.barsDemand p))

/-! ### Ending, pausing and continuing (R171 to R174) -/

/-- The refusals of R171, in its order. -/
def State.endRefusal (s : State) (c : Fin 8) : Option Reason :=
  if s.part = .config then some .notReady
  else if !s.hasJob c then some .noJob
  else
    match s.openLot (.cell c) with
    | some (_, l) => if l.state = .loading then some .busy else none
    | none => none

/-- The job of a cell ended (R171, steps 1 to 4). -/
def State.finishJob (s : State) (c : Fin 8) : Event :=
  let e :=
    match s.openLot (.cell c) with
    | some (id, _) => (Event.of s).cancelLot id
    | none => Event.of s
  e.map fun s =>
    let x := s.cells[c]
    let s1 := s.withdraw c
    let s2 :=
      match x.active with
      | some j => s1.updateProfile j fun p => p.finish x.working x.aux
      | none => s1
    s2.updateCell c fun x => { x with active := none, facts := none }

/-- A cell with no job left (R172, empty stack). -/
def State.goIdle (s : State) (c : Fin 8) : State :=
  s.updateCell c fun x => { x with state := .idle, working := .zero }

/-- The profile a cell resumes: the last of its return stack, with its record. -/
def State.suspended (s : State) (c : Fin 8) : Option (Fin 64 × Profile) :=
  match s.cells[c].stack.getLast? with
  | none => none
  | some i => (s.profiles.profiles[i]).map fun q => (i, q)

/-- END_JOB (R171, R172). -/
def State.endJob (s : State) (c : Fin 8) : State × Verdict :=
  match s.endRefusal c with
  | some r => (s, .refused r)
  | none =>
    let e := s.finishJob c
    match e.st.suspended c with
    | some (i, q) => (e.map fun s => s.resume c i q).startDemands c
    | none => (((e.map fun s => s.goIdle c).needEval).settle, .accepted)

/-- PAUSE (R173). -/
def State.pauseJob (s : State) (c : Fin 8) : State × Verdict :=
  if s.part = .config then (s, .refused .notReady)
  else
    match s.cells[c].state with
    | .running =>
      (((Event.of ((s.updateCell c fun x => { x with state := .paused }).withdraw c)
        ).needEval).settle, .accepted)
    | .paused => (s, .accepted)
    | _ => (s, .refused .noJob)

/-- CONTINUE (R174). -/
def State.continueJob (s : State) (c : Fin 8) : State × Verdict :=
  if s.part = .config then (s, .refused .notReady)
  else
    match s.cells[c].state with
    | .paused =>
      (Event.of (s.updateCell c fun x => { x with state := .running })).startDemands c
    | .running => (s, .accepted)
    | _ => (s, .refused .noJob)

/-- QUERY (R176). -/
def State.queryCell (s : State) (_ : Fin 8) : State × Verdict := (s, .accepted)

/-! ### Configuration (R164) -/

/-- The offsets of the flush outlet and of the other enabled cells (R164, R192). -/
def State.takenOffsets (s : State) (c : Fin 8) : List Nat :=
  s.trunk.config.flushOffset ::
    (((List.finRange 8).filter fun d => decide (d ≠ c) && s.cells[d].config.enabled).map fun d =>
      s.cells[d].config.outletOffset)

/-- The refusals of R164 from order 2 on. A write clears enabled where the flag goes from set to
clear (log 29). -/
def State.cellConfigRefusal (s : State) (c : Fin 8) (x : CellConfig) : Option Reason :=
  if s.part = .config then none
  else if s.hasJob c then some .busy
  else if (s.cells[c].config.enabled && !x.enabled ||
      x.outletOffset != s.cells[c].config.outletOffset) && s.outlets[(Source.cell c).outlet].gate != .closed then some .busy
  else if x.enabled && (decide (s.trunk.config.carry ≤ x.outletOffset) ||
      (s.takenOffsets c).contains x.outletOffset) then some .badConfig
  else none

/-- A gate taken into use is examined: one whose gate-closed input is low enters FAULT, one already
in FAULT stays so (R34). -/
def Event.examineGate (e : Event) (o : Fin 9) : Event :=
  if e.st.outlets[o].gate = .fault ∨ e.st.inputs.gateClosed[o] then e else e.faultGate o

/-- A cell's state after a write of its configuration (R164). -/
def configuredState (x : CellRecord) (enabled : Bool) : CellState :=
  match x.config.enabled, enabled with
  | false, true => .idle
  | true, false => .disabled
  | _, _ => x.state

/-- WRITE_CELL_CONFIG naming a cell (R164). -/
def State.writeCellConfig (s : State) (target : Nat) (w : CellConfigWrite) : State × Verdict :=
  match indexOf 8 target, cellConfigOf w with
  | some c, some x =>
    match s.cellConfigRefusal c x with
    | some r => (s, .refused r)
    | none =>
      let o := (Source.cell c).outlet
      let opens := !s.cells[c].config.enabled && x.enabled && s.operating
      let e := (Event.of s).map fun s =>
        (s.updateCell c fun y =>
          { y with state := configuredState y x.enabled, config := x }).updateOutlet o fun y =>
            { y with closeTime := x.closeTime }
      ((if opens then e.examineGate o else e).settle, .accepted)
  | _, _ => (s, .refused .badValue)

end Sys2Proof.Machine
end

