-- ==== Sys2Proof/Machine/Wire.lean ====
section
/-! DEFINITION. The frame and the encoding of numbers in payloads (R179), the codes (section 10.6),
and the bytes of replies and notices (R184, R187). -/

namespace Sys2Proof.Machine

/-! ### Numbers -/

/-- A one-byte number. -/
def u8 (n : Nat) : List Byte := [BitVec.ofNat 8 n]

/-- A two-byte number, high byte first. -/
def u16 (n : Nat) : List Byte := [BitVec.ofNat 8 (n / 256), BitVec.ofNat 8 n]

/-- A four-byte number, high byte first. -/
def u32 (n : Nat) : List Byte := u16 (n / 65536) ++ u16 n

/-- A signed quantity as a four-byte two's complement number. -/
def i32 (x : Int) : List Byte := u32 (x % 4294967296).toNat

/-- A flag: 1 for set, 0 for clear. -/
def flagByte (b : Bool) : List Byte := u8 (if b then 1 else 0)

/-- An optional field: presence byte, then the value, zeros when it is absent. -/
def optionalBytes (width : Nat) (enc : List Byte) (present : Bool) : List Byte :=
  flagByte present ++ (if present then enc else List.replicate width 0)

/-- An optional one-byte number. -/
def opt8 (x : Option Nat) : List Byte := optionalBytes 1 (u8 (x.getD 0)) x.isSome

/-- An optional two-byte number. -/
def opt16 (x : Option Nat) : List Byte := optionalBytes 2 (u16 (x.getD 0)) x.isSome

/-- A number read from bytes, high byte first. -/
def readNat (bytes : List Byte) : Nat := bytes.foldl (fun n b => n * 256 + b.toNat) 0

/-- The numbers of the given widths, when the bytes are exactly theirs. -/
def readFields : List Nat → List Byte → Option (List Nat)
  | [], [] => some []
  | [], _ :: _ => none
  | w :: ws, bytes =>
    if bytes.length < w then none
    else (readFields ws (bytes.drop w)).map (readNat (bytes.take w) :: ·)

/-! ### The check and the frame -/

/-- One bit of the CRC with generator x^16 + x^12 + x^5 + 1 (R179). -/
def crcBit (crc : BitVec 16) : BitVec 16 :=
  if crc.msb then (crc <<< 1) ^^^ 0x1021#16 else crc <<< 1

/-- One byte of the CRC, most significant bit first. -/
def crcByte (crc : BitVec 16) (b : Byte) : BitVec 16 :=
  Nat.repeat crcBit 8 (crc ^^^ (b.zeroExtend 16 <<< 8))

/-- The check over the given bytes, initial value 0xFFFF, no final inversion. -/
def crc (bytes : List Byte) : BitVec 16 := bytes.foldl crcByte 0xFFFF#16

/-- The sync byte. -/
def sync : Byte := 0x5A#8

/-- The kind byte of a request. -/
def kindRequest : Byte := 0xE1#8

/-- The kind byte of a reply. -/
def kindReply : Byte := 0xD2#8

/-- The kind byte of a notice. -/
def kindNotice : Byte := 0xB4#8

/-- The kind byte of a sample set. -/
def kindSampleSet : Byte := 0x78#8

/-- The kind check of R180: the high four bits are the ones' complement of the low four. -/
def kindCheck (b : Byte) : Bool := (b >>> 4) == ((~~~b) &&& 0x0F#8)

/-- The check bytes of a frame, high byte first. -/
def checkBytes (body : List Byte) : List Byte := u16 (crc body).toNat

/-- A whole frame of the given kind and payload (R179). -/
def frameOf (kind : Byte) (payload : List Byte) : List Byte :=
  let body := kind :: (u8 payload.length ++ payload)
  sync :: (body ++ checkBytes body)

/-! ### Positions and codes -/

/-- Position of a part state (R191). -/
def PartState.code : PartState → Nat
  | .config => 0
  | .operating => 1

/-- Position of a mode. -/
def Mode.code : Mode → Nat
  | .crush => 0
  | .bypass => 1

/-- Position of a flight state (R1). -/
def Flight.code : Flight → Nat
  | .empty => 0
  | .reserved _ => 1
  | .loaded _ => 2
  | .untracked => 3

/-- Position of a lot state (R21). -/
def LotState.code : LotState → Nat
  | .pending => 0
  | .reserved => 1
  | .loading => 2
  | .inTransit => 3
  | .delivered => 4
  | .cancelled => 5
  | .lost => 6
  | .removed => 7

/-- Position of a gate state. -/
def GateState.code : GateState → Nat
  | .closed => 0
  | .isOpen => 1
  | .closing => 2
  | .fault => 3

/-- Position of a crusher state (R50). -/
def CrusherState.code : CrusherState → Nat
  | .running => 0
  | .reversing => 1
  | .probing => 2
  | .blocked => 3

/-- Position of a routing state (R61). -/
def RoutingState.code : RoutingState → Nat
  | .settled => 0
  | .moving => 1
  | .fault => 2

/-- Position of a bin state (R66). -/
def BinState.code : BinState → Nat
  | .inService => 0
  | .full => 1
  | .closing => 2
  | .released => 3
  | .absent => 4
  | .presentWait => 5

/-- Position of a range state. -/
def RangeState.code : RangeState → Nat
  | .noValue => 0
  | .inRange => 1
  | .outOfRange => 2

/-- Position of a pair state. -/
def PairState.code : PairState → Nat
  | .agree => 0
  | .disagree => 1

/-- Position of a pair mode. -/
def PairMode.code : PairMode → Nat
  | .both => 0
  | .singleA => 1
  | .singleB => 2
  | .none => 3

/-- Position of a filter unit state (R88). -/
def UnitState.code : UnitState → Nat
  | .offline => 0
  | .online => 1
  | .flushWait => 2
  | .flushReady => 3
  | .flushing => 4
  | .fault => 5

/-- Position of a selection outcome in the order of R94's table. -/
def CheckOutcome.code : CheckOutcome → Nat
  | .exempt => 0
  | .passed => 1
  | .failed => 2
  | .hold => 3

/-- Position of a shed state (R135). -/
def ShedState.code : ShedState → Nat
  | .idle => 0
  | .settling => 1
  | .exhausted => 2

/-- Position of a phase (R136). -/
def Phase.code : Phase → Nat
  | .a => 0
  | .b => 1
  | .c => 2

/-- Position of a valve kind. -/
def valveKindCode : ValveKind → Nat
  | .flood => 0
  | .hp => 1

/-- Position of an origin (R130). -/
def Origin.code : Origin → Nat
  | .request => 0
  | .restore => 1

/-- Position of a bound in the list of R130. -/
def Bound.position : Bound → Nat
  | .total => 0
  | .polish => 1
  | .hold => 2
  | .shed => 3
  | .lowlow => 4

/-- Code of a bound (section 10.6): 0x21 to 0x25. -/
def Bound.code (b : Bound) : Nat := 0x21 + b.position

/-- Position of a cell state (R163). -/
def CellState.code : CellState → Nat
  | .disabled => 0
  | .idle => 1
  | .running => 2
  | .paused => 3

/-- Position of a link state (R163). -/
def LinkState.code : LinkState → Nat
  | .unlinked => 0
  | .linked => 1
  | .lost => 2

/-- Code of a refusal reason (section 10.6): 0x01 to 0x14. -/
def Reason.code : Reason → Nat
  | .notReady => 0x01
  | .authority => 0x02
  | .disabled => 0x03
  | .noProfile => 0x04
  | .inUse => 0x05
  | .stackFull => 0x06
  | .noRecipe => 0x07
  | .bounds => 0x08
  | .noJob => 0x09
  | .lotOpen => 0x0A
  | .busy => 0x0B
  | .lotsFull => 0x0C
  | .gateFault => 0x0D
  | .hpBarred => 0x0E
  | .hpFault => 0x0F
  | .sequence => 0x10
  | .badValue => 0x11
  | .badPreset => 0x12
  | .badConfig => 0x13
  | .unknownRequest => 0x14

/-- Code of a GRANT reason (section 10.6): 0x01 to 0x09. -/
def GrantReason.code : GrantReason → Nat
  | .granted => 0x01
  | .restored => 0x02
  | .requested => 0x03
  | .shed => 0x04
  | .floodLost => 0x05
  | .lowlow => 0x06
  | .hpFault => 0x07
  | .linkLost => 0x08
  | .restart => 0x09

/-- Code of a reply status (section 10.6): 0x01 to 0x05. -/
def Verdict.status : Verdict → Nat
  | .accepted => 0x01
  | .adjusted => 0x02
  | .reduced => 0x03
  | .waiting _ => 0x04
  | .refused _ => 0x05

/-- Byte 2 of a reply: the bound of WAITING, the reason of REFUSED, 0 otherwise (R184). -/
def Verdict.info : Verdict → Nat
  | .waiting b => b.code
  | .refused r => r.code
  | _ => 0

/-! ### Replies and notices -/

/-- The payload of a reply (R184). -/
def Reply.payload (r : Reply) : List Byte :=
  r.code :: (u8 r.verdict.status ++ u8 r.verdict.info ++ r.body)

/-- The four lot flags in one byte, MIXED, SHORT, SPILLED_INTO, CONTAMINATED as bits 0 to 3. -/
def lotFlagByte (mixed short spilledInto contaminated : Bool) : Nat :=
  (if mixed then 1 else 0) + (if short then 2 else 0) + (if spilledInto then 4 else 0) +
  (if contaminated then 8 else 0)

/-- The payload of a notice (R187). -/
def Notice.payload : Notice → List Byte
  | .grant f h r => u8 1 ++ u16 f ++ u16 h ++ u8 r.code
  | .lot id st m sh sp co => u8 2 ++ u8 id ++ u8 st.code ++ u8 (lotFlagByte m sh sp co)

/-- The bytes of a frame the part sends. -/
def TxFrame.bytes : TxFrame → List Byte
  | .reply r => frameOf kindReply r.payload
  | .notice n => frameOf kindNotice n.payload

end Sys2Proof.Machine
end

