-- ==== Sys2Proof/Machine/Links.lean ====
section
/-! DEFINITION. The link interface (chapter 10): a frame's arrival on a port, replies and the status
block, the tests every request passes through, and sending. -/

namespace Sys2Proof.Machine

/-! ### Ports and receivers -/

/-- A port's receiver: cell ports 0 to 7, station port, sample port. -/
def rxIndex : Port → Fin 10
  | .cell c => ⟨c.1, Nat.lt_of_lt_of_le c.2 (by decide)⟩
  | .station => 8
  | .sample => 9

/-- A cell port's transmitter. -/
def cellTx (c : Fin 8) : Fin 9 := ⟨c.1, Nat.lt_succ_of_lt c.2⟩

/-- A port's transmitter; the sample port has none. -/
def txIndex : Port → Option (Fin 9)
  | .cell c => some (cellTx c)
  | .station => some 8
  | .sample => none

/-- A receiver changed. -/
def State.updateRx (s : State) (p : Port) (f : Receiver → Receiver) : State :=
  s.withLinks { s.links with rx := change s.links.rx (rxIndex p) f }

/-- A transmitter changed. -/
def State.updateTx (s : State) (t : Fin 9) (f : Transmitter → Transmitter) : State :=
  s.withLinks { s.links with tx := change s.links.tx t f }

/-- A counter of frames increased by one, wrapping from 65535 to 0 (R181). -/
def wrap16 (n : Nat) : Nat := (n + 1) % 65536

/-- A receiver in HUNT, its gap timer stopped and the bytes of its frame given up (R180). -/
def Receiver.hunt (r : Receiver) : Receiver := { r with state := .hunt, gap := .stopped }

/-- A frame dropped: counted, framing-seen flag set, receiver in HUNT (R180, R181). -/
def State.dropFrame (s : State) (p : Port) : State :=
  s.updateRx p fun r => { r.hunt with dropped := wrap16 r.dropped, framingSeen := true }

/-- A well-formed frame counted, receiver in HUNT (R180, R181). -/
def State.countFrame (s : State) (p : Port) : State :=
  s.updateRx p fun r => { r.hunt with wellFormed := wrap16 r.wellFormed }

/-- A well-formed frame reported to the cell context unit (R165, R181). -/
def State.reportFrame (s : State) (p : Port) : State :=
  match p with
  | .cell c => s.updateCell c CellRecord.hear
  | _ => s

/-! ### Replies and the status block (R184) -/

/-- The value of a valve's pending request. -/
def Valve.pendingValue (v : Valve) : Option Nat := v.pending.map PendingRequest.value

/-- The open lot of a cell as the status block gives it. -/
def openLotBytes (x : Option (Fin 32 × Lot)) : List Byte :=
  match x with
  | some (id, l) => flagByte true ++ u8 id.1 ++ u8 l.state.code
  | none => flagByte false ++ u8 0 ++ u8 0

/-- The indicator byte of a status block. -/
def State.indicators (s : State) (c : Fin 8) : Nat :=
  (if s.balance.markers[c] then 1 else 0) + (if s.cells[c].restored then 2 else 0) +
  (if s.outlets[(Source.cell c).outlet].gate = .fault then 4 else 0)

/-- A cell's status block, 18 bytes (R184). -/
def State.statusBlock (s : State) (c : Fin 8) : List Byte :=
  let x := s.cells[c]
  u8 x.state.code ++ opt8 (x.active.map Fin.val) ++ u8 x.stack.length ++
  u16 (s.valve c .flood).commanded ++ u16 (s.valve c .hp).commanded ++
  opt16 (s.valve c .flood).pendingValue ++ opt16 (s.valve c .hp).pendingValue ++
  openLotBytes (s.openLot (.cell c)) ++ u8 (s.indicators c)

/-- The markers cleared when a cell's status block is formed (R118, R165, R184). -/
def State.clearMarkers (s : State) (c : Fin 8) : State :=
  (s.withBalance { s.balance with markers := put s.balance.markers c false }).updateCell c fun x =>
    { x with restored := false }

/-- A reply placed at the tail of a port's reply queue (R183). -/
def State.reply (s : State) (t : Fin 9) (r : Reply) : State :=
  s.updateTx t fun x => { x with replies := x.replies ++ [r] }

/-- The reply of a cell request on its own port: the cell's status block (R184). -/
def State.replyCell (s : State) (c : Fin 8) (code : Byte) (v : Verdict) : State :=
  (s.clearMarkers c).reply (cellTx c) ⟨code, v, s.statusBlock c⟩

/-- The station's transmitter. -/
def stationTx : Fin 9 := 8

/-- A reply on the station port. -/
def State.replyStation (s : State) (code : Byte) (v : Verdict) (body : List Byte) : State :=
  s.reply stationTx ⟨code, v, body⟩

/-- A request refused under R183: the status block on a cell port, an empty body on the station
port. The sample port takes no request. -/
def State.refuse (s : State) (p : Port) (code : Byte) (r : Reason) : State :=
  match p with
  | .cell c => s.replyCell c code (.refused r)
  | .station => s.replyStation code (.refused r) []
  | .sample => s

/-! ### Requests (R183) -/

/-- How a cell request is served by its owning block. -/
abbrev CellService := Fin 8 → State → State × Verdict

/-- How a station request is served by its owning block; the third part is the reply's body. -/
abbrev StationService := State → State × Verdict × List Byte

/-- A station request whose reply has an empty body. -/
def plain (f : State → State × Verdict) : StationService := fun s => ((f s).1, (f s).2, [])

/-- A cell request of the right length on a port: served on a cell port, refused BAD_VALUE on the
station port (R183). -/
def State.takeCell (s : State) (p : Port) (code : Byte) (serve : CellService) : State :=
  match p with
  | .cell c => (serve c s).1.replyCell c code (serve c s).2
  | _ => s.refuse p code .badValue

/-- A station request of the right length on a port: served on the station port, refused AUTHORITY
on a cell port (R183). -/
def State.takeStation (s : State) (p : Port) (code : Byte) (serve : StationService) : State :=
  match p with
  | .station => (serve s).1.replyStation code (serve s).2.1 (serve s).2.2
  | _ => s.refuse p code .authority

/-- A request's frame completing on a port (R180, R181): dropped where the port's reply queue is
full, with the overrun flag set; on the sample port a request does not suit; otherwise counted,
reported, and taken (log 5). -/
def State.requestFrame (s : State) (p : Port) (take : State → State) : State :=
  match txIndex p with
  | none => s.dropFrame p
  | some t =>
    if s.links.tx[t].replies.length < 4 then take ((s.countFrame p).reportFrame p)
    else (s.dropFrame p).updateTx t fun x => { x with overrun := true }

/-! ### Codes (section 10.6) -/

/-- The codes of the cell requests. -/
def cellCodes : List Byte := [0x01, 0x02, 0x03, 0x04, 0x05, 0x06, 0x07, 0x08, 0x09]

/-- The codes of the station requests, the station reads and ON_BEHALF. -/
def stationCodes : List Byte :=
  [0x20, 0x21, 0x22, 0x30, 0x31, 0x32, 0x33, 0x34, 0x35, 0x36, 0x37, 0x38, 0x39, 0x3A, 0x40, 0x41,
    0x42, 0x48, 0x49, 0x50, 0x51, 0x52, 0x53, 0x60, 0x61, 0x62, 0x63, 0x68, 0x69] ++
  [0x70, 0x71, 0x72, 0x73, 0x74, 0x75, 0x76, 0x77, 0x78, 0x7F]

/-- Whether a code is in the code table. -/
def isKnownCode (code : Byte) : Bool := cellCodes.contains code || stationCodes.contains code

/-! ### Sending (R188) -/

/-- The end of the frame a transmitter is sending; the next one begins at the end of the event. An
IDLE transmitter has no frame to end. -/
def State.endFrame (s : State) (t : Fin 9) : State := s.updateTx t fun x => { x with sending := none }

end Sys2Proof.Machine
end

