-- ==== Sys2Proof/Machine/Crusher.lean ====
section
/-! DEFINITION. The crusher unit (chapter 3): delivery at the inlet, the drain timer, jams and their
recovery, clearing. -/

namespace Sys2Proof.Machine

/-! ### Delivery at the inlet (R51 to R54) -/

/-- The drain timer restarted at a purge count times the pitch period: running while the crusher is
RUNNING, paused otherwise (R54). -/
def State.restartDrain (s : State) (purge : Nat) : State :=
  let d := purge * s.trunk.config.pitchPeriod
  s.withCrusher { s.crusher with
    drain := if s.crusher.state = .running then .running d else .paused d }

/-- An entry of a lot into the resident list: appended at its first entry, counted at a later one
(R52). -/
def enterResident (rs : List Resident) (id : Fin 32) (pos : Target) : List Resident :=
  let crush := pos.mode == .crush
  if rs.any fun r => r.lot == id then
    rs.map fun r =>
      if r.lot = id then
        { r with
          entered := r.entered + 1
          position := pos
          crusherPath := r.crusherPath || crush }
      else r
  else rs ++ [⟨id, 1, crush, pos, false⟩]

/-- A LOADED flight that enters under an unsettled or wrong routing marks its lot CONTAMINATED, with
a notice when the flag was clear (R53). -/
def State.checkRouting (s : State) (id : Fin 32) (l : Lot) : State :=
  if s.routing.state = .settled ∧ s.routing.position = l.target then s
  else if l.contaminated then s
  else (s.updateLot id fun l => { l with contaminated := true }).postLot id

/-- A LOADED flight of a lot enters (R51 to R54). -/
def State.deliverLot (s : State) (id : Fin 32) (l : Lot) : State :=
  let s1 := s.withCrusher { s.crusher with
    residents := enterResident s.crusher.residents id s.routing.position }
  ((s1.updateLot id fun l => { l with firstEntered := true }).checkRouting id l).restartDrain
    l.purge

/-- Untracked material enters (R51). -/
def State.deliverUntracked (s : State) : State :=
  (s.withCrusher { s.crusher with
    untracked := true
    allowance := if s.crusher.untracked then s.crusher.allowance
      else s.delivery.untrackedAllowance }).restartDrain 15

/-- The content of the flight handed over at a pitch (R51). A RESERVED flight does not reach the
inlet (R3); a LOADED flight that names no lot of the table does not arise (R1) and is taken as
untracked material (log 20). -/
def State.deliver (s : State) (f : Flight) : State :=
  match f with
  | .empty | .reserved _ => s
  | .untracked => s.deliverUntracked
  | .loaded id =>
    match s.intake.lots[id] with
    | some l => s.deliverLot id l
    | none => s.deliverUntracked

/-! ### The drain timer's expiry (R55) -/

/-- Whether an entry's lot is delivered at the drain expiry: IN_TRANSIT with every flight entered. -/
def State.isDelivered (s : State) (r : Resident) : Bool :=
  match s.intake.lots[r.lot] with
  | some l => l.state == .inTransit && l.flights == r.entered
  | none => false

/-- One entry delivered: it leaves the list, and its lot ends DELIVERED at the entry's position. -/
def Event.deliverResident (e : Event) (r : Resident) : Event :=
  (e.map fun s => s.withCrusher { s.crusher with
    residents := s.crusher.residents.filter fun x => x.lot != r.lot }).endLot r.lot .delivered
      (some r.position)

/-- The drain timer's expiry (R55). -/
def State.drainExpiry (s : State) : Event :=
  let e := (s.crusher.residents.filter s.isDelivered).foldl Event.deliverResident (Event.of s)
  (e.map fun s => s.withCrusher { s.crusher with untracked := false, drain := .stopped }).needExam

/-! ### Jams (R57 to R59) -/

/-- The lot held to have caused a jam: that of the last entry with the crusher path set (R58). -/
def Crusher.responsible (c : Crusher) : Option (Fin 32) :=
  (c.residents.filter fun r => r.crusherPath).getLast?.map Resident.lot

/-- A jam charged to a lot; the second part is the allowance left (R58). -/
def State.chargeLot (s : State) (id : Fin 32) : State × Nat :=
  let s1 := s.updateLot id fun l => { l with jamAllowance := l.jamAllowance - 1 }
  (s1, match s1.intake.lots[id] with
    | some l => l.jamAllowance
    | none => 0)

/-- A jam charged to the untracked material (R58). -/
def State.chargeUntracked (s : State) : State × Nat :=
  let c := s.crusher
  let left := (if c.untracked then c.allowance else s.delivery.untrackedAllowance) - 1
  (s.withCrusher { c with
    untracked := true
    allowance := left
    drain := match c.drain with
      | .stopped => .paused (15 * s.trunk.config.pitchPeriod)
      | t => t }, left)

/-- A jam charged to the responsible material (R58). -/
def State.chargeJam (s : State) : State × Nat :=
  match s.crusher.responsible with
  | some id => s.chargeLot id
  | none => s.chargeUntracked

/-- The crusher reverses (R58, allowance left). -/
def State.reverse (s : State) : State :=
  (s.withCrusher { s.crusher with
    state := .reversing
    drain := s.crusher.drain.pause
    reverse := .running s.delivery.reverseTime
    probe := .stopped }).setHalt .jam true

/-- The crusher becomes BLOCKED: every entry of the resident list is marked stalled, BLOCKED is
added and then JAM removed (R58). -/
def State.block (s : State) : State :=
  ((s.withCrusher { s.crusher with
    state := .blocked
    drain := s.crusher.drain.pause
    reverse := .stopped
    probe := .stopped
    residents := s.crusher.residents.map fun r => { r with stalled := true } }
    ).setHalt .blocked true).setHalt .jam false

/-- A jam taken (R58); the jam count is set to 0 (R57). -/
def State.takeJam (s : State) : State :=
  let r := (s.withCrusher { s.crusher with jamCount := 0 }).chargeJam
  if 0 < r.2 then r.1.reverse else r.1.block

/-- Jam detection at a sample set (R57): channel 10 in RUNNING and PROBING. That the count goes on
from its kept value at the first set after staleness (R84) is the model's choice (log 36). -/
def State.detectJam (s : State) : State :=
  let ch := s.samples.channels[(10 : Fin 14)]
  if (s.crusher.state = .running ∨ s.crusher.state = .probing) ∧ !ch.held then
    if s.delivery.jamThreshold ≤ ch.value then
      let n := s.crusher.jamCount + 1
      if s.delivery.jamSets ≤ n then s.takeJam
      else s.withCrusher { s.crusher with jamCount := n }
    else s.withCrusher { s.crusher with jamCount := 0 }
  else s

/-- The reverse timer's expiry (R59). -/
def State.reverseExpiry (s : State) : State :=
  if s.crusher.reverse.isRunning then
    s.withCrusher { s.crusher with
      state := .probing
      reverse := .stopped
      probe := .running s.delivery.probeTime }
  else s

/-- The probe timer's expiry (R59). -/
def State.probeExpiry (s : State) : State :=
  if s.crusher.probe.isRunning then
    (s.withCrusher { s.crusher with
      state := .running
      probe := .stopped
      drain := s.crusher.drain.resume }).setHalt .jam false
  else s

/-! ### Clearing (R60) -/

/-- The loading of a LOADING lot is ended where it stands (R60, step 1). -/
def Event.endLoading (e : Event) (id : Fin 32) : Event :=
  match e.st.intake.lots[id] with
  | none => e
  | some l =>
    if l.state = .loading then
      (e.map fun s =>
        let n := s.loadedCount id
        (s.closeGate l.source.outlet).updateLot id fun l =>
          { l with short := true, flights := n }).enterTransit id
    else e

/-- One resident lot removed (R60, steps 1 to 3). -/
def Event.removeResident (e : Event) (r : Resident) : Event :=
  ((e.endLoading r.lot).map fun s =>
    (s.withTrunk (s.trunk.dropLot r.lot)).withCrusher { s.crusher with
      residents := s.crusher.residents.filter fun x => x.lot != r.lot }).endLot r.lot .removed none

/-- The crusher cleared by hand (R60). -/
def State.clearCrusher (s : State) : Event :=
  let e := s.crusher.residents.foldl Event.removeResident (Event.of s)
  (e.map fun s =>
    (s.withCrusher { s.crusher with
      state := .running
      untracked := false
      drain := .stopped
      jamCount := 0 }).setHalt .blocked false).needExam

end Sys2Proof.Machine
end

