-- ==== Sys2Proof/Machine/Trunk.lean ====
section
/-! DEFINITION. The trunk tracker (chapter 1): the pitch event, home-mark registration, drive
overload. -/

namespace Sys2Proof.Machine

/-! ### The pitch event (R3 to R6) -/

/-- The map moved by one pitch: head index, tail clearing with the given state, belt counter (R3,
R6). -/
def Trunk.advance (t : Trunk) (tail : Flight) : Trunk :=
  let t1 := { t with head := (t.head + 1) % 256, belt := (t.belt + 1) % t.config.beltLength }
  t1.setFlight (t.config.carry - 1) tail

/-- A pitch in OPERATING: delivery, the map's move, the outlet passings, and the pitch-taken reports
to the routing unit and the intake arbiter (R3, R4). -/
def State.pitchEvent (s : State) : Event :=
  let s1 := s.deliver (s.trunk.flight 0)
  (((Event.of s1).map fun s => s.withTrunk (s.trunk.advance .empty)).passings.needExam).needPass

/-- Whether a delivery restarted the drain timer at a duration of 0 (R54). -/
def State.drainsAtOnce (s : State) : Bool :=
  s.trunk.flight 0 != .empty && (s.deliver (s.trunk.flight 0)).crusher.drain.isDue

/-- A pitch taken whole. A drain timer restarted at 0 expires right after it (R54, log 8). -/
def State.pitch (s : State) : State :=
  if s.operating then
    let s1 := s.pitchEvent.settle
    if s.drainsAtOnce then s1.drainExpiry.settle else s1
  else s.withTrunk (s.trunk.advance .untracked)

/-! ### Registration (R7 to R13) -/

/-- The belt counter read as a signed drift (R7). -/
def Trunk.drift (t : Trunk) : Int :=
  if t.belt ≤ t.config.beltLength / 2 then t.belt else (t.belt : Int) - t.config.beltLength

/-- The lots named by the flights at the given offsets, each once, in the order met (log 28). -/
def Trunk.lotsAt (t : Trunk) (offsets : List Nat) : List (Fin 32) :=
  offsets.foldl (fun acc d =>
    match (t.flight d).lot? with
    | some x => if acc.contains x then acc else acc ++ [x]
    | none => acc) []

/-- The lots on the books that the flights of a map at the given offsets name. -/
def State.lotsOn (s : State) (t : Trunk) (offsets : List Nat) : List (Fin 32) :=
  (t.lotsAt offsets).filter fun i => (s.intake.lots[i]).isSome

/-- The trunk with the flights at offsets 0 to e - 1 UNTRACKED. -/
def Trunk.clearFirst (t : Trunk) (e : Nat) : Trunk :=
  (List.range e).foldl (fun t d => t.setFlight d .untracked) t

/-- The relative correction of a positive drift (R10). -/
def State.correctBack (s : State) (e : Nat) : Event :=
  let t := ({ s.trunk with head := (s.trunk.head + (256 - e % 256)) % 256 }).clearFirst e
  let pushed := s.lotsOn t ((List.range e).map (t.config.carry + ·))
  let ev := pushed.foldl Event.loseLot (Event.of (s.withTrunk t))
  ((ev.map fun s => s.withTrunk { s.trunk with belt := 0 }).needExam).needPass

/-- The relative correction of a negative drift: the missed pitches one by one (R11). -/
def State.catchUp : Nat → State → State
  | 0, s => s
  | n + 1, s => State.catchUp n s.pitch

/-- The carrying run set wholly UNTRACKED. -/
def Trunk.clearRun (t : Trunk) : Trunk := t.mapRun fun _ => .untracked

/-- The absolute registration (R12). In CONFIG no alert source is raised. -/
def State.registerAbsolute (s : State) : Event :=
  let lots := s.lotsOn s.trunk (List.range s.trunk.config.carry)
  let ev := lots.foldl Event.loseLot (Event.of (s.withTrunk s.trunk.clearRun))
  (ev.map fun t => t.withTrunk { t.trunk with
    belt := 0
    registration := t.trunk.registration || s.operating }).needExam

/-- A home mark with the registered flag set and the drift within the tolerance ends the
REGISTRATION source (R13). -/
def State.confirmRegistration (s : State) : State :=
  s.withTrunk { s.trunk with registration := false }

/-- A home-mark arrival (R8). -/
def State.homeMark (s : State) : State :=
  let e := s.trunk.drift
  if !s.trunk.registered then s.withTrunk { s.trunk with belt := 0, registered := true }
  else if e.natAbs ≤ s.trunk.config.tolerance then
    let s1 := s.confirmRegistration
    if e = 0 then s1
    else if 0 < e then (s1.correctBack e.natAbs).settle
    else State.catchUp e.natAbs s1
  else s.registerAbsolute.settle

/-! ### Overload (R15, R16) -/

/-- Overload detection at a sample set (R16). -/
def State.detectOverload (s : State) : State :=
  let ch := s.samples.channels[(11 : Fin 14)]
  let k := s.trunk.config.overloadSets
  if ch.held then s
  else if s.trunk.config.overloadLimit ≤ ch.value then
    let n := min k (s.trunk.overloadCount + 1)
    let s1 := s.withTrunk { s.trunk with overloadCount := n }
    if n = k then s1.setHalt .overload true else s1
  else s.withTrunk { s.trunk with overloadCount := 0 }

/-- TRUNK_RUN's effect (R15). -/
def State.runTrunk (s : State) : State :=
  s.withTrunk { s.trunk with
    halt := (s.trunk.halt.set .station false).set .overload false
    overloadCount := 0 }

end Sys2Proof.Machine
end

