-- ==== Sys2Proof/Machine/Samples.lean ====
section
/-! DEFINITION. The sample receiver (chapter 4): conditioning, the probe pairs, staleness, and the
reports of an arrival to the blocks that use the values (R84). -/

namespace Sys2Proof.Machine

/-! ### Channels (R77) -/

/-- A channel conditioned from a reading (R77). -/
def Channel.condition (ch : Channel) (span : Span) (value : Nat) (valid : Bool) : Channel :=
  if valid && (decide (span.lo ≤ value) && decide (value ≤ span.hi)) then ⟨value, false, .inRange⟩
  else { ch with held := true, range := .outOfRange }

/-- The fourteen channels conditioned from a set. -/
def conditionAll (chs : Vector Channel 14) (spans : Vector Span 14) (set : SampleSet) :
    Vector Channel 14 :=
  Vector.ofFn fun c : Fin 14 => chs[c].condition spans[c] set.readings[c] set.valid[c]

/-! ### Pairs (R79 to R81) -/

/-- The agreement count at which a pair clears (R80). -/
def agreementLimit : Nat := 8

/-- A pair's record after a set with both probes in range and agreeing (R79, R80). -/
def Pair.agreeing (p : Pair) (mean conservative : Nat) (auto : Bool) : Pair :=
  match p.state with
  | .agree => { p with used := mean, count := 0 }
  | .disagree =>
    let n := min agreementLimit (p.count + 1)
    if n = agreementLimit ∧ auto then { p with state := .agree, used := mean, count := 0 }
    else { p with used := conservative, count := n }

/-- A pair's record after a set with both probes in range and disagreeing (R79, R80). -/
def Pair.disagreeing (p : Pair) (conservative : Nat) : Pair :=
  { p with
    state := .disagree
    used := conservative
    count := 0
    seen := p.seen || p.state == .agree }

/-- A pair's record after a set, from its two conditioned probes (R79 to R81). -/
def Pair.take (p : Pair) (a b : Channel) (conservative : Nat → Nat → Nat) (tolerance : Nat)
    (auto : Bool) : Pair :=
  match a.range == .inRange, b.range == .inRange with
  | true, true =>
    let d := (a.value - b.value) + (b.value - a.value)
    let q := { p with held := false, mode := .both, maxDiff := max p.maxDiff d }
    if d ≤ tolerance then
      q.agreeing ((a.value + b.value) / 2) (conservative a.value b.value) auto
    else q.disagreeing (conservative a.value b.value)
  | true, false => { p with held := false, mode := .singleA, used := a.value, count := 0 }
  | false, true => { p with held := false, mode := .singleB, used := b.value, count := 0 }
  | false, false => { p with held := true, mode := .none, count := 0 }

/-! ### Taking a set (R75) and staleness (R78) -/

/-- A set taken: last set, channels, pairs, staleness timer (R75). -/
def Samples.take (m : Samples) (set : SampleSet) : Samples :=
  let chs := conditionAll m.channels m.config.spans set
  { m with
    lastSet := set
    channels := chs
    clean := m.clean.take chs[6] chs[7] min m.config.cleanTolerance m.config.cleanAutoClear
    dirty := m.dirty.take chs[8] chs[9] max m.config.dirtyTolerance m.config.dirtyAutoClear
    stale := false
    timer := .running m.config.staleness }

/-- A pair at the staleness timer's expiry (R78). -/
def Pair.stale (p : Pair) : Pair := { p with held := true, count := 0 }

/-- The staleness timer's expiry (R78). -/
def Samples.expire (m : Samples) : Samples :=
  if m.timer.isRunning then
    { m with
      channels := m.channels.map fun ch => { ch with held := true }
      clean := m.clean.stale
      dirty := m.dirty.stale
      stale := true
      timer := .stopped }
  else m

/-- A pair cleared by the station (R82). -/
def Pair.clear (p : Pair) : Pair :=
  { p with state := .agree, count := 0, seen := false, maxDiff := 0 }

/-- The arrival of a set: it is taken, in OPERATING reported to the trunk tracker, the crusher unit,
the filter bank controller and the grant arbiter, and then evaluated (R75, R84, R107). -/
def State.sampleArrival (s : State) (set : SampleSet) : State :=
  let s1 := s.withSamples (s.samples.take set)
  let s2 :=
    if s1.operating then s1.detectOverload.detectJam.filterAtSet.examineHeaders else s1
  ((Event.of s2).needEval).settle

end Sys2Proof.Machine
end

