-- ==== Sys2Proof/Machine/Plant.lean ====
section
/-! DEFINITION. Plant control (chapter 11): COMMISSION, DECOMMISSION, RESTART with each block's
effects, alert enables and flags. -/

namespace Sys2Proof.Machine

/-! ### COMMISSION (R192) -/

/-- Whether an outlet's offset stands on the carrying run (R192, items 16 to 24). -/
def State.onRun (s : State) (offset : Nat) : Bool :=
  within 4 (s.trunk.config.carry - 1) offset

/-- The offsets of the enabled cells below a cell number, which are examined before it (R192). -/
def State.offsetsBelow (s : State) (n : Nat) : List Nat :=
  ((List.finRange 8).filter fun d => decide (d.1 < n) && s.cells[d].config.enabled).map fun d =>
    s.cells[d].config.outletOffset

/-- Whether the outlet of a cell passes its item (R192); a disabled cell's is not examined. -/
def State.cellItemOk (s : State) (c : Fin 8) : Bool :=
  let o := s.cells[c].config.outletOffset
  !s.cells[c].config.enabled || (s.onRun o && !(s.offsetsBelow c.1).contains o)

/-- Whether the flush outlet passes its item (R192). -/
def State.flushItemOk (s : State) : Bool :=
  let o := s.trunk.config.flushOffset
  s.onRun o && !(s.offsetsBelow 8).contains o

/-- The items of R192 in its order: index and whether it passes. -/
def State.commissionItems (s : State) : List (Nat × Bool) :=
  let t := s.trunk.config
  [(1, within 16 192 t.carry && decide (t.carry < t.beltLength)),
   (2, within 2 4 t.routingLead),
   (3, within 1 8 t.gateLead),
   (4, s.cells.toList.any fun x => x.config.enabled)] ++
  ((List.finRange 8).map fun c => (16 + c.1, s.cellItemOk c)) ++ [(24, s.flushItemOk)]

/-- The index of the first item that fails. -/
def State.offendingItem (s : State) : Option Nat :=
  (s.commissionItems.find? fun x => !x.2).map Prod.fst

/-- The trunk tracker at COMMISSION (R19). -/
def Trunk.commission (t : Trunk) : Trunk :=
  { t with halt := .stationOnly, overloadCount := 0, registration := false }

/-- An outlet examined at COMMISSION (R34): one in use whose input is low enters FAULT. -/
def State.commissionOutlet (s : State) (o : Fin 9) : Outlet :=
  let x := s.outlets[o]
  if s.outletInUse o && !s.inputs.gateClosed[o] then { x with gate := .fault, spill := true } else x

/-- The routing unit at COMMISSION (R74). -/
def State.commissionRouting (s : State) : Routing :=
  if s.inputs.routingSettled then { s.routing with state := .settled }
  else { s.routing with state := .moving, timer := .running s.delivery.routingTime }

/-- The effects of an accepted COMMISSION (R19, R34, R48, R74, R192). -/
def State.commissioned (s : State) : State :=
  ((((((s.withPart .operating).withTrunk s.trunk.commission).withIntake
    { s.intake with stamp := 0, held := none }).withOutlets
      (Vector.ofFn s.commissionOutlet)).withCrusher { s.crusher with state := .running }).withRouting
        s.commissionRouting).examine

/-- COMMISSION (R192); the third part is the reply's body. -/
def State.commission (s : State) : State × Verdict × List Nat :=
  if s.part = .operating then (s, .refused .sequence, [])
  else
    match s.offendingItem with
    | some i => (s, .refused .badConfig, [i])
    | none => (s.commissioned, .accepted, [])

/-! ### DECOMMISSION (R193) -/

/-- Whether DECOMMISSION finds the part without jobs, lots and flush (R193). -/
def State.isQuiet (s : State) : Bool :=
  (List.finRange 8).all (fun c => !s.hasJob c) && s.noLots &&
  s.filter.units.toList.all fun u => u.state != .flushReady && u.state != .flushing

/-- The trunk tracker at DECOMMISSION (R19). -/
def Trunk.decommission (t : Trunk) : Trunk :=
  { t with
    map := Vector.replicate 256 .untracked
    belt := 0
    registered := false
    halt := .stationOnly
    overloadCount := 0
    registration := false }

/-- An outlet at DECOMMISSION (R48). -/
def Outlet.rest (x : Outlet) : Outlet := { x with gate := .closed, timer := .stopped, spill := false }

/-- The crusher unit at DECOMMISSION (R74). -/
def Crusher.rest (allowance : Nat) : Crusher :=
  ⟨.running, [], false, allowance, .stopped, .stopped, .stopped, 0⟩

/-- The filter bank at DECOMMISSION (R105). -/
def FilterBank.decommission (f : FilterBank) : FilterBank :=
  { f with
    units := f.units.map fun u => { u with state := .offline, forced := false, postCheck := false }
    slot := none
    begun := Vector.replicate 32 false
    lastCheck := none }

/-- The shed operation at DECOMMISSION and RESTART: IDLE, the count kept (R148). -/
def Shed.rest (x : Shed) : Shed := ⟨.idle, x.stepCount, none, .stopped⟩

/-- The arbiter's states and counts cleared at DECOMMISSION and RESTART (R148). -/
def Grants.clear (g : Grants) (valves : Vector CellValves 8) : Grants :=
  { g with
    valves := valves
    shed := g.shed.rest
    stamp := 0
    lowlow := false
    hpFault := false
    hpCount := 0
    floodFault := false
    floodCount := 0 }

/-- A valve at DECOMMISSION (R148). -/
def Valve.decommission (v : Valve) : Valve := ⟨v.commanded, v.commanded, none, .stopped⟩

/-- The valves at DECOMMISSION. -/
def Grants.decommission (g : Grants) : Grants :=
  g.clear (g.valves.map fun v => ⟨v.flood.decommission, v.hp.decommission⟩)

/-- The commitment update where a counted grant has changed (R109, R122). -/
def State.updateIfCounted (s before : State) : State :=
  if s.sumCounted .flood = before.sumCounted .flood ∧ s.sumCounted .hp = before.sumCounted .hp then s
  else s.commitmentUpdate

/-- The effects of an accepted DECOMMISSION (R19, R48, R74, R105, R122, R148). -/
def State.decommissioned (s : State) : State :=
  let s1 := (((((((s.withPart .config).withTrunk s.trunk.decommission).withIntake
    { s.intake with stamp := 0, held := none }).withOutlets (s.outlets.map Outlet.rest)).withCrusher
      (Crusher.rest s.delivery.untrackedAllowance)).withRouting ⟨.reject, .moving, .stopped⟩
        ).withFilter s.filter.decommission).withGrants s.grants.decommission
  s1.updateIfCounted s

/-- DECOMMISSION (R193). -/
def State.decommission (s : State) : State × Verdict :=
  if s.part = .config then (s, .refused .sequence)
  else if s.isQuiet then (s.decommissioned, .accepted)
  else (s, .refused .busy)

/-! ### RESTART (R194) -/

/-- The trunk tracker at RESTART (R19). -/
def Trunk.restart (t : Trunk) : Trunk :=
  { t.clearRun with halt := .stationOnly, overloadCount := 0, registration := false }

/-- The gates that RESTART commands closed (R48). -/
def State.restartGate (s : State) (o : Fin 9) : State :=
  if s.outlets[o].gate = .isOpen ∨ s.outlets[o].gate = .closing then s.closeGate o else s

/-- The crusher unit at RESTART (R74). -/
def State.restartCrusher (s : State) : Crusher :=
  let c := s.crusher
  if c.isDrained then
    { c with
      state := .running
      residents := []
      drain := .stopped
      reverse := .stopped
      probe := .stopped
      jamCount := 0 }
  else
    { state := .running
      residents := []
      untracked := true
      allowance := if c.untracked ∧ 0 < c.allowance then c.allowance
        else s.delivery.untrackedAllowance
      drain := .running (15 * s.trunk.config.pitchPeriod)
      reverse := .stopped
      probe := .stopped
      jamCount := 0 }

/-- A bin at RESTART (R74). -/
def Bin.restart (b : Bin) : Bin :=
  { b with committed := 0, state := if b.state = .closing then .released else b.state }

/-- The sample receiver at RESTART (R87). -/
def Samples.restart (m : Samples) : Samples :=
  { m with
    channels := Vector.replicate 14 .noReading
    clean := .noReading
    dirty := .noReading
    stale := false
    timer := .running m.config.staleness }

/-- A filter unit at RESTART (R105). -/
def FilterUnit.restart (u : FilterUnit) : FilterUnit :=
  if u.state = .flushWait ∨ u.state = .flushReady then { u with state := .online, forced := false }
  else u

/-- The unit in FLUSHING keeps the slot (R105). -/
def FilterBank.flushingUnit (f : FilterBank) : Option (Fin 6) :=
  (List.finRange 6).find? fun u => f.units[u].state == .flushing

/-- The filter bank at RESTART (R105). -/
def FilterBank.restart (f : FilterBank) : FilterBank :=
  { f with
    units := f.units.map FilterUnit.restart
    slot := f.flushingUnit
    begun := Vector.replicate 32 false
    lastCheck := none }

/-- The balance unit's flags at RESTART (R122). -/
def Balance.restart (b : Balance) : Balance :=
  { b with sticky := .none, hold := false, markers := Vector.replicate 8 false }

/-- A cell whose commanded grants were not both 0 is told of RESTART (R148). -/
def State.postRestart (before : State) (s : State) (c : Fin 8) : State :=
  if (before.valve c .flood).commanded = 0 ∧ (before.valve c .hp).commanded = 0 then s
  else s.postGrant c .restart

/-- The grant arbiter at RESTART, with its notices (R148). -/
def State.restartGrants (s : State) : State :=
  (List.finRange 8).foldl (State.postRestart s)
    (s.withGrants (s.grants.clear (Vector.replicate 8 ⟨.zero, .zero⟩)))

/-- Every owned profile dropped (R162). -/
def ProfileStore.restart (p : ProfileStore) : ProfileStore :=
  { p with profiles := p.profiles.map fun x =>
      x.map fun q => if q.owner.isSome then q.drop else q }

/-- A cell's record at RESTART (R178). -/
def CellRecord.restart (x : CellRecord) : CellRecord :=
  { x with
    state := if x.config.enabled then .idle else .disabled
    restored := false
    active := none
    stack := []
    working := .zero
    aux := Vector.replicate 8 0
    facts := none }

/-- Whether a notice is of a lot. -/
def Notice.isLot : Notice → Bool
  | .lot _ _ _ _ _ _ => true
  | .grant _ _ _ => false

/-- The link interface at RESTART (R190). -/
def Links.restart (l : Links) : Links :=
  { l with
    notices := l.notices.map fun q => q.filter fun n => !n.isLot
    image := none }

/-- Plant control at RESTART: the latched flags cleared and latched afresh where the source is
active (R197). -/
def State.relatch (s : State) : State :=
  s.withPlant { s.plant with flags := alertSources.map s.alertActive }

/-- The trunk, the lots, the gates, the crusher and the bins at RESTART (R19, R48, R74). -/
def State.restartPlant (s : State) : State :=
  let s1 := (s.withTrunk s.trunk.restart).withIntake ⟨Vector.replicate 32 none, 0, none⟩
  let s2 := (List.finRange 9).foldl State.restartGate s1
  ((s2.withCrusher s2.restartCrusher).withBins (s2.bins.map Bin.restart)).examine

/-- The sample receiver, the filter bank, the balance unit and the grant arbiter at RESTART (R87,
R105, R122, R148). -/
def State.restartSupply (s : State) : State :=
  ((((s.withSamples s.samples.restart).withFilter s.filter.restart).withBalance
    s.balance.restart).restartGrants).commitmentUpdate

/-- The stores, the cells and the links at RESTART (R162, R178, R190). -/
def State.restartLinks (s : State) : State :=
  ((s.withProfiles s.profiles.restart).withCells (s.cells.map CellRecord.restart)).withLinks
    s.links.restart

/-- RESTART (R194). -/
def State.restart (s : State) : State × Verdict :=
  if s.part = .config then (s, .refused .notReady)
  else (s.restartPlant.restartSupply.restartLinks.relatch, .accepted)

/-! ### Alert enables and flags (R196) -/

/-- A source's flag after its enable is replaced (R196): an enable that goes on latches the flag as
the source stands, any other flag follows by R195. -/
def State.enabledFlag (s : State) (enables : Vector Bool 15) (a : AlertSource) : Bool :=
  let i := a.index
  if !s.plant.enables[i] && enables[i] && a != .blocked then s.alertActive a else s.plant.flags[i]

/-- The fifteen enables read from their bytes; absent where one is neither 0 nor 1 (R179). -/
def enablesOf (bytes : Vector Nat 15) : Option (Vector Bool 15) :=
  if bytes.toList.all fun b => (flagOf b).isSome then some (bytes.map fun b => b == 1) else none

/-- SET_ALERT_ENABLES (R196). -/
def State.setAlertEnables (s : State) (bytes : Vector Nat 15) : State × Verdict :=
  match enablesOf bytes with
  | none => (s, .refused .badValue)
  | some en => (s.withPlant ⟨en, alertSources.map (s.enabledFlag en)⟩, .accepted)

/-- A source's flag after CLEAR_ALERTS (R196). -/
def State.clearedFlag (s : State) (selection : Nat) (a : AlertSource) : Bool :=
  if selected selection a.index.1 && s.isLatched a && !s.alertActive a then false
  else s.plant.flags[a.index]

/-- CLEAR_ALERTS (R196). -/
def State.clearAlerts (s : State) (selection : Nat) : State × Verdict :=
  (s.withPlant { s.plant with flags := alertSources.map (s.clearedFlag selection) }, .accepted)

end Sys2Proof.Machine
end

