-- ==== Sys2Proof/Machine/Station.lean ====
section
/-! DEFINITION. The station's requests to the trunk tracker, the bin table, the crusher unit, the
gates, the filter bank, the balance unit, the grant arbiter and the sample receiver: refusals in the
order their rules give (log 9), effects, verdicts. -/

namespace Sys2Proof.Machine

/-- A write that the part takes in CONFIG only: BUSY in OPERATING, BAD_VALUE where a field is out of
range (log 9). -/
def State.configWrite (s : State) (ok : Bool) (write : State → State) : State × Verdict :=
  if s.part = .operating then (s, .refused .busy)
  else if ok then (write s, .accepted) else (s, .refused .badValue)

/-! ### Trunk (R2, R15) -/

/-- The trunk tracker after an accepted WRITE_TRUNK_CONFIG (R2, R13). -/
def Trunk.configure (t : Trunk) (c : TrunkConfig) : Trunk :=
  { t with config := c, belt := 0, registered := false, overloadCount := 0, registration := false }

/-- WRITE_TRUNK_CONFIG (R2). -/
def State.writeTrunk (s : State) (c : TrunkConfig) : State × Verdict :=
  s.configWrite (trunkConfigOk c) fun s => s.withTrunk (s.trunk.configure c)

/-- TRUNK_STOP (R15). -/
def State.trunkStop (s : State) : State × Verdict :=
  if s.part = .config then (s, .refused .notReady) else (s.setHalt .station true, .accepted)

/-- TRUNK_RUN (R15). -/
def State.trunkRun (s : State) : State × Verdict :=
  if s.part = .config then (s, .refused .notReady) else (s.runTrunk, .accepted)

/-! ### Delivery configuration and bins (R49, R69 to R71) -/

/-- A bin's fill under a new delivery configuration (R49): bins 0 to 3 keep room for their
commitments. -/
def Bin.fit (b : Bin) (n : Fin 5) (capacity : Nat) : Bin :=
  if n.1 < 4 then { b with fill := min b.fill (capacity - b.committed) } else b

/-- The bin state under a new capacity (R49). -/
def Bin.stateFor (b : Bin) (capacity : Nat) : BinState :=
  match b.state with
  | .inService => if capacity ≤ b.fill then .full else .inService
  | .full => if b.fill < capacity then .inService else .full
  | st => st

/-- One bin compared with its new capacity (R49). -/
def Event.compareBin (e : Event) (b : Fin 5) : Event :=
  e.setBinState b (e.st.bins[b].stateFor e.st.delivery.capacity[b])

/-- The effects of an accepted WRITE_BIN_CONFIG (R49). -/
def State.configureDelivery (s : State) (c : DeliveryConfig) : State :=
  let s1 := ((s.withDelivery c).withCrusher
    { s.crusher with allowance := c.untrackedAllowance }).withBins
      (Vector.ofFn fun b : Fin 5 => s.bins[b].fit b c.capacity[b])
  ((List.finRange 5).foldl Event.compareBin (Event.of s1)).settle

/-- WRITE_BIN_CONFIG (R49). -/
def State.writeDelivery (s : State) (c : DeliveryConfig) : State × Verdict :=
  s.configWrite (deliveryConfigOk c) fun s => s.configureDelivery c

/-- BIN_RELEASE (R69). -/
def State.binRelease (s : State) (bin : Nat) : State × Verdict :=
  match indexOf 5 bin with
  | none => (s, .refused .badValue)
  | some b =>
    if s.bins[b].state = .inService ∨ s.bins[b].state = .full then
      (((Event.of s).setBinState b (if s.bins[b].committed = 0 then .released else .closing)).settle,
        .accepted)
    else (s, .refused .sequence)

/-- The fill a BIN_RESTORE gives: clamped to the room left, bin 4's to its capacity (R71). -/
def State.restoredFill (s : State) (b : Fin 5) (fill : Nat) : Nat :=
  if b.1 < 4 then min fill (s.delivery.capacity[b] - s.bins[b].committed)
  else min fill s.delivery.capacity[b]

/-- BIN_RESTORE (R71). -/
def State.binRestore (s : State) (bin fill : Nat) : State × Verdict :=
  match indexOf 5 bin with
  | none => (s, .refused .badValue)
  | some b =>
    if Config.volumeMax < fill then (s, .refused .badValue)
    else if s.bins[b].state = .presentWait then
      let f := s.restoredFill b fill
      let e := (Event.of s).map fun s => s.updateBin b fun x =>
        { x with fill := f, unexpected := false }
      ((e.setBinState b (if f = s.delivery.capacity[b] then .full else .inService)).settle,
        clampVerdict (decide (f < fill)))
    else (s, .refused .sequence)

/-- A bin after a change of its bin-present input (R70). -/
def State.binPresent (s : State) (b : Fin 5) (level : Bool) : Event :=
  let e := Event.of (s.withInputs { s.inputs with
    binPresent := put s.inputs.binPresent b level })
  if s.inputs.binPresent[b] = level then e
  else
    match s.bins[b].state, level with
    | .released, false => e.setBinState b .absent
    | .absent, false => e
    | _, false =>
      (e.map fun s => s.updateBin b fun x => { x with unexpected := true }).setBinState b .absent
    | .absent, true => e.setBinState b .presentWait
    | _, true => e

/-! ### Crusher and gates (R38 to R40, R60) -/

/-- CRUSHER_CLEARED (R60). -/
def State.crusherCleared (s : State) : State × Verdict :=
  if s.part = .config then (s, .refused .notReady)
  else if s.crusher.state = .blocked then (s.clearCrusher.settle, .accepted)
  else (s, .refused .sequence)

/-- CLEAR_GATE (R40). -/
def State.clearGate (s : State) (outlet : Nat) : State × Verdict :=
  if s.part = .config then (s, .refused .notReady)
  else
    match indexOf 9 outlet with
    | none => (s, .refused .badValue)
    | some o =>
      if s.outlets[o].gate = .fault ∧ s.inputs.gateClosed[o] then
        (((Event.of s).map fun s => s.updateOutlet o fun x =>
          { x with gate := .closed, spill := false }).needPass.settle, .accepted)
      else (s, .refused .sequence)

/-- A rise of a gate-closed input (R38). -/
def Outlet.rise (x : Outlet) : Outlet :=
  match x.gate with
  | .closing => { x with gate := .closed, timer := .stopped, spill := false }
  | .fault => { x with spill := false }
  | _ => x

/-- A fall of a gate-closed input (R38). -/
def Event.gateFall (e : Event) (o : Fin 9) : Event :=
  match e.st.outlets[o].gate with
  | .closed => e.faultGate o
  | .fault => e.map fun s => s.updateOutlet o fun x => { x with spill := true }
  | _ => e

/-- A change of a gate-closed input (R38); in CONFIG the controller does not act on it (R34). -/
def State.gateClosed (s : State) (o : Fin 9) (level : Bool) : Event :=
  let e := Event.of (s.withInputs { s.inputs with
    gateClosed := put s.inputs.gateClosed o level })
  if s.inputs.gateClosed[o] = level ∨ s.part = .config then e
  else if level then e.map fun s => s.updateOutlet o Outlet.rise
  else e.gateFall o

/-- The expiry of a gate timer (R39). -/
def State.gateExpiry (s : State) (o : Fin 9) : Event :=
  if s.outlets[o].timer.isRunning then (Event.of s).faultGate o else Event.of s

/-! ### Routing (R61 to R63) -/

/-- A change of the routing-settled input (R61); in CONFIG the unit does not act on it (R73). -/
def State.routingSettled (s : State) (level : Bool) : Event :=
  let e := Event.of (s.withInputs { s.inputs with routingSettled := level })
  if s.inputs.routingSettled = level ∨ s.part = .config then e
  else
    match s.routing.state, level with
    | .settled, false => (e.map fun s => s.commandMove s.routing.position).needExam
    | .moving, true | .fault, true =>
      (e.map fun s => s.withRouting { s.routing with
        state := .settled
        timer := .stopped }).needExam
    | _, _ => e

/-- The expiry of the routing timer (R63). The flags see FAULT before the examination that may move
the routing out of it (log 4). -/
def State.routingExpiry (s : State) : Event :=
  if s.routing.timer.isRunning then
    ((Event.of s).map fun s => (s.withRouting { s.routing with
      state := .fault
      timer := .stopped }).refreshFlags).needExam
  else Event.of s

/-! ### Filter bank (R89, R90, R92, R98, R101, R102) -/

/-- WRITE_FILTER_CONFIG naming a unit (R89). -/
def State.writeUnit (s : State) (target : Nat) (c : UnitConfig) : State × Verdict :=
  match indexOf 6 target with
  | none => (s, .refused .badValue)
  | some u =>
    if !unitConfigOk c then (s, .refused .badValue)
    else if s.part = .operating ∧ s.filter.units[u].state ≠ .offline then (s, .refused .busy)
    else (s.updateUnit u fun x => { x with config := c }, .accepted)

/-- WRITE_FILTER_CONFIG naming SLUDGE (R90). -/
def State.writeSludge (s : State) (c : SludgeSettings) : State × Verdict :=
  if !sludgeSettingsOk c then (s, .refused .badValue)
  else if s.part = .operating ∧ (s.filter.slot.isSome ∨ s.filter.begun.toList.any id) then
    (s, .refused .busy)
  else
    ((s.withFilter { s.filter with sludge := c }).updateOutlet 8 fun x =>
      { x with closeTime := c.closeTime }, .accepted)

/-- FILTER_OFFLINE (R101). -/
def State.filterOffline (s : State) (unit : Nat) : State × Verdict :=
  match indexOf 6 unit with
  | none => (s, .refused .badValue)
  | some u =>
    match s.filter.units[u].state with
    | .offline => (s, .accepted)
    | .flushing => (s, .refused .busy)
    | _ => ((s.takeOffline u).settle, .accepted)

/-- A unit brought ONLINE (R102). -/
def State.bringOnline (s : State) (u : Fin 6) : State :=
  (((Event.of s).map fun s => s.updateUnit u fun x =>
    { x with state := .online, forced := false, postCheck := false }).needEval).settle

/-- FILTER_ONLINE (R102). -/
def State.filterOnline (s : State) (unit : Nat) : State × Verdict :=
  if s.part = .config then (s, .refused .notReady)
  else
    match indexOf 6 unit with
    | none => (s, .refused .badValue)
    | some u =>
      match s.filter.units[u].state with
      | .offline | .fault => (s.bringOnline u, .accepted)
      | .online => (s, .accepted)
      | _ => (s, .refused .sequence)

/-- FORCE_FLUSH (R92). -/
def State.forceFlush (s : State) (unit : Nat) : State × Verdict :=
  if s.part = .config then (s, .refused .notReady)
  else
    match indexOf 6 unit with
    | none => (s, .refused .badValue)
    | some u =>
      if s.filter.units[u].state = .online then
        ((((Event.of s).map fun s => s.updateUnit u fun x =>
          { x with state := .flushWait, forced := true, postCheck := false }).needEval).settle,
          .accepted)
      else (s, .refused .sequence)

/-- A change of a unit's flush-done input (R98). -/
def State.flushDone (s : State) (u : Fin 6) (level : Bool) : Event :=
  let s1 := s.withInputs { s.inputs with flushDone := put s.inputs.flushDone u level }
  if level && !s.inputs.flushDone[u] then s1.flushDoneRise u else Event.of s1

/-! ### Balance unit (R106, R119, R120) -/

/-- WRITE_TANK_CONFIG (R106). -/
def State.writeTank (s : State) (c : TankConfig) : State × Verdict :=
  s.configWrite (tankConfigOk c) fun s =>
    ((Event.of (s.withBalance { s.balance with config := c })).needEval).settle

/-- SET_MASKS (R119). -/
def State.setMasks (s : State) (range invalid overflow depleted : Nat) : State × Verdict :=
  match flagOf range, flagOf invalid, flagOf overflow, flagOf depleted with
  | some r, some i, some o, some d =>
    (((Event.of (s.withBalance (s.balance.setMasks ⟨r, i, o, d⟩))).needEval).settle, .accepted)
  | _, _, _, _ => (s, .refused .badValue)

/-- The exceptions a selection names (R120, R179). -/
def exceptionsOf (selection : Nat) : Exceptions :=
  ⟨selected selection 0, selected selection 1, selected selection 2, selected selection 3⟩

/-- CLEAR_EXCEPTIONS (R120). -/
def State.clearExceptions (s : State) (selection : Nat) : State × Verdict :=
  (((Event.of (s.withBalance (s.balance.clearSticky (exceptionsOf selection)))).needEval).settle,
    .accepted)

/-! ### Grant arbiter (R123, R125, R138, R144) -/

/-- WRITE_CELL_CONFIG naming SUPPLY (R123). -/
def State.writeSupply (s : State) (c : SupplyConfig) : State × Verdict :=
  s.configWrite (supplyConfigOk c) fun s => s.withGrants { s.grants with supply := c }

/-- The faults CLEAR_SUPPLY_FAULT names: HP, flood (R144). -/
def supplyFaultsOf (which : Nat) : Option (Bool × Bool) :=
  match which with
  | 0 => some (true, false)
  | 1 => some (false, true)
  | 2 => some (true, true)
  | _ => none

/-- The named supply faults cleared with their counts (R144). -/
def Grants.clearFaults (g : Grants) (hp flood : Bool) : Grants :=
  { g with
    hpFault := g.hpFault && !hp
    hpCount := if hp then 0 else g.hpCount
    floodFault := g.floodFault && !flood
    floodCount := if flood then 0 else g.floodCount }

/-- CLEAR_SUPPLY_FAULT (R144). -/
def State.clearSupplyFault (s : State) (which : Nat) : State × Verdict :=
  match supplyFaultsOf which with
  | none => (s, .refused .badValue)
  | some (hp, flood) => (s.withGrants (s.grants.clearFaults hp flood), .accepted)

/-- The expiry of a valve's settle timer (R125). -/
def State.settleExpiry (s : State) (c : Fin 8) (k : ValveKind) : Event :=
  let v := s.valve c k
  if v.timer.isRunning then
    (Event.of (s.setValve c k { v with counted := v.commanded, timer := .stopped })).needEval
  else Event.of s

/-- The step's decrease counted: the larger of the commanded grant and the value the step commanded
(R138). -/
def State.countStep (s : State) : State :=
  match s.grants.shed.current with
  | none => s
  | some x =>
    let v := s.valve x.cell x.kind
    s.setValve x.cell x.kind { v with counted := max v.commanded x.value }

/-- The expiry of the step timer (R138). -/
def State.stepExpiry (s : State) : State :=
  if s.grants.shed.timer.isRunning then
    let s1 := s.countStep
    let s2 := s1.withGrants { s1.grants with
      shed := { s1.grants.shed with current := none, timer := .stopped } }
    (((Event.of s2).needEval).settleAs true).final
  else s

/-! ### Sample receiver (R76, R82) -/

/-- WRITE_SENSOR_CONFIG (R76). -/
def State.writeSensor (s : State) (c : SensorConfigWrite) : State × Verdict :=
  match sensorConfigOf c with
  | some x => s.configWrite true fun s => s.withSamples { s.samples with config := x }
  | none => s.configWrite false fun s => s

/-- CLEAR_PAIR (R82). -/
def State.clearPair (s : State) (pair : Nat) : State × Verdict :=
  match pair with
  | 0 => (s.withSamples { s.samples with clean := s.samples.clean.clear }, .accepted)
  | 1 => (s.withSamples { s.samples with dirty := s.samples.dirty.clear }, .accepted)
  | _ => (s, .refused .badValue)

end Sys2Proof.Machine
end

