-- ==== Sys2Proof/Machine/Reads.lean ====
section
/-! DEFINITION. The station's reads: the content each read's rule lists, encoded as R179 states (the
choices of layout are log 19), and the read image with its segments (R185). -/

namespace Sys2Proof.Machine

/-! ### Shared encodings -/

/-- A list: its count, then its entries. -/
def listBytes {α : Type} (enc : α → List Byte) (xs : List α) : List Byte :=
  u8 xs.length ++ xs.flatMap enc

/-- A table's entries in order. -/
def tableBytes {α : Type} {n : Nat} (enc : α → List Byte) (v : Vector α n) : List Byte :=
  v.toList.flatMap enc

/-- An optional record: presence byte, then its bytes, zeros when it is absent. -/
def optRecord {α : Type} (width : Nat) (enc : α → List Byte) (x : Option α) : List Byte :=
  match x with
  | some a => flagByte true ++ enc a
  | none => flagByte false ++ List.replicate width 0

/-- A selection as a number with bit i for position i. -/
def selectionOf (bits : List Bool) : Nat :=
  bits.foldr (fun b n => 2 * n + (if b then 1 else 0)) 0

/-- A routing target: bin and mode. -/
def Target.bytes (t : Target) : List Byte := u8 t.bin.1 ++ u8 t.mode.code

/-- A timer's remaining time, absent while it is stopped. -/
def Timer.left : Timer → Option Nat
  | .stopped => none
  | .running ms => some ms

/-- A timer of at most 65535 ms with its remaining time. -/
def Timer.bytes (t : Timer) : List Byte := opt16 t.left

/-- A flush timer with its remaining time, at most 900000 ms. -/
def Timer.longBytes (t : Timer) : List Byte := optRecord 4 u32 t.left

/-- The drain timer: its state, then its remaining time, 0 while it is stopped. -/
def DrainTimer.bytes : DrainTimer → List Byte
  | .stopped => u8 0 ++ u32 0
  | .running ms => u8 1 ++ u32 ms
  | .paused ms => u8 2 ++ u32 ms

/-! ### READ_MAP (R17) -/

/-- The halt-reason set as a selection in the order of section 1.5. -/
def HaltSet.bytes (h : HaltSet) : List Byte :=
  u8 (selectionOf [h.station, h.jam, h.blocked, h.routing, h.bin, h.overload])

/-- One flight of the window: offset, state, lot id. -/
def Trunk.flightBytes (t : Trunk) (d : Nat) : List Byte :=
  u8 d ++ u8 (t.flight d).code ++ opt8 ((t.flight d).lot?.map Fin.val)

/-- The content of READ_MAP for a window that stands on the carrying run. -/
def State.mapContent (s : State) (start count : Nat) : List Byte :=
  let t := s.trunk
  u8 t.head ++ u16 t.belt ++ flagByte t.registered ++ t.halt.bytes ++ u8 t.overloadCount ++
  u8 t.config.carry ++ (List.range count).flatMap fun k => t.flightBytes (start + k)

/-! ### READ_LOTS (R47) -/

/-- A lot's source as a target: a cell, FLUSH one above the highest cell. -/
def Source.code : Source → Nat
  | .cell c => c.1
  | .flush => 8

/-- A rank as a target: a priority, SERVICE one above the highest priority. -/
def Rank.code : Rank → Nat
  | .priority p => p
  | .service => 8

/-- A lot's record (R20) with the lowest and highest offset of its flights (R47). The lot's id, which
R47 gives no place, goes first: the model's choice (log 19). -/
def State.lotBytes (s : State) (x : Fin 32 × Lot) : List Byte :=
  let l := x.2
  let offsets := s.trunk.lotOffsets x.1
  u8 x.1.1 ++ u8 l.source.code ++ u8 l.flights ++ u16 l.declared ++ opt16 l.actual ++
  l.target.bytes ++ u8 l.purge ++ u8 l.jamAllowance ++ u8 l.rank.code ++ u32 l.stamp ++
  flagByte l.notify ++ u8 l.state.code ++
  u8 (lotFlagByte l.mixed l.short l.spilledInto l.contaminated) ++ flagByte l.firstEntered ++
  opt8 offsets.head? ++ opt8 offsets.getLast?

/-- The width of a lot's record in a read. -/
def lotWidth : Nat := 25

/-- The record of the lowest-numbered lot in use at or above an id. -/
def State.lotFrom (s : State) (start : Nat) : Option (Fin 32 × Lot) :=
  (List.finRange 32).findSome? fun i =>
    if start ≤ i.1 then (s.intake.lots[i]).map fun l => (i, l) else none

/-- An outlet's record. -/
def Outlet.bytes (x : Outlet) : List Byte :=
  u8 x.gate.code ++ flagByte x.timer.isRunning ++ flagByte x.spill ++ u16 x.closeTime

/-- The content of READ_LOTS. -/
def State.lotsContent (s : State) (start : Nat) : List Byte :=
  u8 (32 - s.freeIds.length) ++ flagByte s.intake.held.isSome ++ u32 s.intake.stamp ++
  optRecord lotWidth s.lotBytes (s.lotFrom start) ++ tableBytes Outlet.bytes s.outlets

/-! ### READ_FILTER (R103) -/

/-- A filter unit's configuration record. -/
def unitConfigBytes (c : UnitConfig) : List Byte :=
  u16 c.ratedFlow ++ u16 c.dpClean ++ u16 c.dpMax ++ u16 c.dpFlush ++ u16 c.flushTime

/-- A filter unit as READ_FILTER gives it. -/
def State.unitBytes (s : State) (u : Fin 6) : List Byte :=
  let x := s.filter.units[u]
  u8 x.state.code ++ flagByte x.forced ++ flagByte x.postCheck ++ flagByte (x.state == .flushing) ++
  flagByte s.inputs.flushDone[u] ++ x.timer.longBytes ++ unitConfigBytes x.config ++
  u16 (s.unitDp u).value ++ flagByte (s.unitDp u).held

/-- A last check record. -/
def LastCheck.bytes (x : LastCheck) : List Byte :=
  u8 x.unit.1 ++ u8 x.outcome.code ++ optRecord 4 i32 x.headroom

/-- The sludge settings. -/
def sludgeBytes (c : SludgeSettings) : List Byte :=
  u8 c.flights ++ u16 c.volume ++ u16 c.closeTime

/-- The content of READ_FILTER. -/
def State.filterContent (s : State) : List Byte :=
  (List.finRange 6).flatMap s.unitBytes ++ opt8 (s.filter.slot.map Fin.val) ++
  u32 (selectionOf s.filter.begun.toList) ++ optRecord 7 LastCheck.bytes s.filter.lastCheck ++
  sludgeBytes s.filter.sludge

/-! ### READ_BALANCE (R86, R121) -/

/-- A sample set as received (R182). -/
def sampleSetBytes (x : SampleSet) : List Byte :=
  tableBytes u16 x.readings ++ u16 (selectionOf x.valid.toList)

/-- A channel record. -/
def Channel.bytes (x : Channel) : List Byte := u16 x.value ++ flagByte x.held ++ u8 x.range.code

/-- A pair record. -/
def Pair.bytes (p : Pair) : List Byte :=
  u8 p.state.code ++ u16 p.used ++ flagByte p.held ++ u8 p.mode.code ++ u8 p.count ++
  flagByte p.seen ++ u16 p.maxDiff

/-- The sensor configuration record. -/
def SensorConfig.bytes (c : SensorConfig) : List Byte :=
  tableBytes (fun x : Span => u16 x.lo ++ u16 x.hi) c.spans ++ u16 c.staleness ++
  u16 c.cleanTolerance ++ u16 c.dirtyTolerance ++ flagByte c.cleanAutoClear ++
  flagByte c.dirtyAutoClear

/-- The sample receiver's part (R86). -/
def Samples.bytes (m : Samples) : List Byte :=
  sampleSetBytes m.lastSet ++ tableBytes Channel.bytes m.channels ++ m.clean.bytes ++ m.dirty.bytes ++
  flagByte m.stale ++ flagByte m.timer.isRunning ++ m.config.bytes

/-- The balance record. -/
def BalanceRecord.bytes (r : BalanceRecord) : List Byte :=
  tableBytes u16 r.avail ++ u16 r.primary ++ u16 r.polish ++ u32 r.vClean ++ u32 r.vDirty ++
  i32 r.cleanPart ++ i32 r.dirtyPart ++ i32 r.credit ++ u16 r.total ++ u32 r.sumFlood ++
  u32 r.sumHp ++ i32 r.hTotal ++ i32 r.hPolish ++ flagByte r.deficit ++ flagByte r.polishBound ++
  flagByte r.heldInput

/-- Four exceptions' flags. -/
def Exceptions.bytes (x : Exceptions) : List Byte :=
  flagByte x.range ++ flagByte x.invalid ++ flagByte x.overflow ++ flagByte x.depleted

/-- The tank configuration record. -/
def tankConfigBytes (c : TankConfig) : List Byte :=
  u16 c.cleanArea ++ u16 c.dirtyArea ++ u32 c.vLow ++ u32 c.vLowLow ++ u32 c.vDirtyHigh ++
  u16 c.horizon ++ u16 c.margin

/-- The balance unit's part (R121). -/
def Balance.bytes (b : Balance) : List Byte :=
  b.record.bytes ++ u16 b.evalCount ++ b.sticky.bytes ++ b.masked.bytes ++ flagByte b.hold ++
  tableBytes flagByte b.markers ++ tankConfigBytes b.config

/-- The content of READ_BALANCE. -/
def State.balanceContent (s : State) : List Byte := s.samples.bytes ++ s.balance.bytes

/-! ### READ_BINS (R72) -/

/-- A bin as READ_BINS gives it. -/
def State.binBytes (s : State) (b : Fin 5) : List Byte :=
  let x := s.bins[b]
  u8 x.state.code ++ u16 s.delivery.capacity[b] ++ u32 x.fill ++ u32 x.committed ++
  flagByte x.unexpected ++ flagByte (x.state == .released)

/-- The delivery configuration record. -/
def deliveryBytes (c : DeliveryConfig) : List Byte :=
  tableBytes u16 c.capacity ++ u16 c.jamThreshold ++ u8 c.jamSets ++ u8 c.untrackedAllowance ++
  u16 c.reverseTime ++ u16 c.probeTime ++ u16 c.routingTime

/-- An entry of the resident list. -/
def Resident.bytes (r : Resident) : List Byte :=
  u8 r.lot.1 ++ u8 r.entered ++ flagByte r.crusherPath ++ r.position.bytes ++ flagByte r.stalled

/-- The crusher unit's part. -/
def Crusher.bytes (c : Crusher) : List Byte :=
  u8 c.state.code ++ u8 c.jamCount ++ flagByte c.untracked ++ u8 c.allowance ++ c.drain.bytes ++
  flagByte c.reverse.isRunning ++ flagByte c.probe.isRunning ++ listBytes Resident.bytes c.residents

/-- The content of READ_BINS. -/
def State.binsContent (s : State) : List Byte :=
  (List.finRange 5).flatMap s.binBytes ++ deliveryBytes s.delivery ++ s.crusher.bytes ++
  s.routing.position.bytes ++ u8 s.routing.state.code ++ flagByte s.routing.timer.isRunning

/-! ### READ_CELL (R147, R176) -/

/-- A pending request. -/
def PendingRequest.bytes (p : PendingRequest) : List Byte :=
  u16 p.value ++ u32 p.stamp ++ u8 p.origin.code ++ u8 p.bound.code

/-- A valve record. -/
def Valve.bytes (v : Valve) : List Byte :=
  u16 v.commanded ++ u16 v.counted ++ v.timer.bytes ++ optRecord 8 PendingRequest.bytes v.pending

/-- A shed step. -/
def ShedStep.bytes (x : ShedStep) : List Byte :=
  u8 x.cell.1 ++ u8 (valveKindCode x.kind) ++ u8 x.phase.code ++ u16 x.before ++ u16 x.value

/-- The grant arbiter's part for the whole arbiter (R147). -/
def Grants.bytes (g : Grants) : List Byte :=
  u8 g.shed.state.code ++ u16 g.shed.stepCount ++ optRecord 7 ShedStep.bytes g.shed.current ++
  flagByte g.shed.timer.isRunning ++ flagByte g.lowlow ++ flagByte g.hpFault ++ u8 g.hpCount ++
  flagByte g.floodFault ++ u8 g.floodCount ++ u32 g.stamp ++ u16 g.supply.settleTime ++
  u16 g.supply.hpLow ++ u16 g.supply.floodLow

/-- A cell's configuration record. -/
def CellConfig.bytes (c : CellConfig) : List Byte :=
  flagByte c.enabled ++ u8 c.outletOffset ++ u16 c.closeTime ++ u16 c.floodMax ++ u16 c.hpMax ++
  u16 c.floor ++ u16 c.linkTimeout

/-- The derived job facts. -/
def JobFacts.bytes (f : JobFacts) : List Byte :=
  f.target.bytes ++ u8 f.purge ++ u8 f.jamAllowance ++ flagByte f.hpPermitted ++ u8 f.maxFlights ++
  u8 f.priority

/-- Working values. -/
def Working.bytes (w : Working) : List Byte := u16 w.flood ++ u16 w.hp ++ u16 w.lots ++ u32 w.volume

/-- The cell record's part (R176). -/
def CellRecord.bytes (x : CellRecord) : List Byte :=
  x.config.bytes ++ u8 x.state.code ++ u8 x.link.code ++ x.linkTimer.bytes ++ flagByte x.restored ++
  opt8 (x.active.map Fin.val) ++ listBytes (fun p : Fin 64 => u8 p.1) x.stack ++ x.working.bytes ++
  x.aux.toList ++ optRecord 7 JobFacts.bytes x.facts

/-- The content of READ_CELL. -/
def State.cellContent (s : State) (c : Fin 8) : List Byte :=
  (s.valve c .flood).bytes ++ (s.valve c .hp).bytes ++ s.grants.bytes ++ s.cells[c].bytes

/-! ### READ_PROFILE and READ_RECIPE (R161) -/

/-- A half, every field. -/
def Half.bytes (h : Half) : List Byte :=
  u16 h.flood ++ u16 h.hp ++ u16 h.lots ++ u32 h.volume ++ h.aux.toList

/-- An extent. -/
def Extent.bytes (x : Extent) : List Byte := u16 x.first ++ u16 x.last

/-- The definition of a profile, with its extent. -/
def definitionBytes (extent : Option Extent) (p : Profile) : List Byte :=
  u8 p.group.1 ++ u8 p.recipeIndex ++ u8 p.priority ++ flagByte p.keep ++ flagByte p.presets ++
  opt16 p.presetStart ++ opt8 (p.owner.map Fin.val) ++ flagByte p.saveValid ++
  optRecord 4 Extent.bytes extent

/-- The content of READ_PROFILE for one part: DEFINITION, INITIAL, SAVE or MEMORY. -/
def State.profileContent (s : State) (i : Fin 64) (part start : Nat) : List Byte :=
  let p := s.profiles.profiles[i]
  match part with
  | 0 => optRecord 16 (definitionBytes s.profiles.extents[i]) p
  | 1 => optRecord 18 (fun p => p.initial.bytes) p
  | 2 => optRecord 19 (fun p => p.save.bytes ++ flagByte p.saveValid) p
  | _ => Memory.readRun s.profiles.memory start (min 32 (presetSize - start))

/-- A group as READ_RECIPE gives it. -/
def Group.bytes (g : Group) : List Byte := u8 g.base ++ u8 g.count ++ flagByte (0 < g.count)

/-- A recipe record. -/
def Recipe.bytes (r : Recipe) : List Byte :=
  u8 r.bin.1 ++ u8 r.mode.code ++ u8 r.purge ++ u8 r.jamAllowance ++ flagByte r.hpPermitted ++
  u8 r.maxFlights

/-- The groups whose run includes a recipe (R161), by rising group number: the order is the model's
choice (log 19). -/
def RecipeStore.groupsOf (r : RecipeStore) (i : Nat) : List (Fin 16) :=
  (List.finRange 16).filter fun g =>
    decide (r.groups[g].base ≤ i) && decide (i < r.groups[g].base + r.groups[g].count)

/-- The content of READ_RECIPE for a recipe. -/
def RecipeStore.recipeContent (r : RecipeStore) (i : Fin 128) : List Byte :=
  r.recipes[i].bytes ++ listBytes (fun g : Fin 16 => u8 g.1) (r.groupsOf i.1)

/-! ### READ_PORTS (R189, R197) -/

/-- The receiver's part of a port's record: state and framing-seen flag. -/
def Receiver.stateBytes (r : Receiver) : List Byte :=
  u8 (match r.state with
    | .hunt => 0
    | .inFrame _ => 1) ++ flagByte r.framingSeen

/-- A receiver's counts. -/
def Receiver.countBytes (r : Receiver) : List Byte := u16 r.wellFormed ++ u16 r.dropped

/-- A transmitter's state and the replies waiting. -/
def Transmitter.bytes (t : Transmitter) : List Byte :=
  flagByte t.sending.isSome ++ u8 t.replies.length

/-- A cell port's record. -/
def State.cellPortBytes (s : State) (c : Fin 8) : List Byte :=
  let r := s.links.rx[rxIndex (.cell c)]
  let t := s.links.tx[cellTx c]
  r.stateBytes ++ flagByte t.overrun ++ r.countBytes ++ t.bytes ++ u8 s.links.notices[c].length

/-- The station port's record. -/
def State.stationPortBytes (s : State) : List Byte :=
  let r := s.links.rx[rxIndex .station]
  let t := s.links.tx[stationTx]
  r.stateBytes ++ flagByte t.overrun ++ r.countBytes ++ t.bytes

/-- The sample port's record. -/
def State.samplePortBytes (s : State) : List Byte :=
  let r := s.links.rx[rxIndex .sample]
  r.stateBytes ++ r.countBytes

/-- An alert source's record (R197). -/
def State.alertBytes (s : State) (a : AlertSource) : List Byte :=
  flagByte s.plant.enables[a.index] ++ flagByte (s.alertActive a) ++ flagByte s.plant.flags[a.index]

/-- The content of READ_PORTS. -/
def State.portsContent (s : State) : List Byte :=
  (List.finRange 8).flatMap s.cellPortBytes ++ s.stationPortBytes ++ s.samplePortBytes ++
  u8 s.part.code ++ alertSources.toList.flatMap s.alertBytes ++ flagByte s.alertLine

/-- The flags and dropped counts cleared by READ_PORTS (R189). -/
def Links.clearFlags (l : Links) : Links :=
  { l with
    rx := l.rx.map fun r => { r with framingSeen := false, dropped := 0 }
    tx := l.tx.map fun t => { t with overrun := false } }

/-! ### The read image (R185) -/

/-- The bytes of a segment. -/
def segmentSize : Nat := 43

/-- The number of segments of an image. -/
def ReadImage.segments (i : ReadImage) : Nat := (i.content.length + 42) / segmentSize

/-- A reply body: segment number, segment count, the segment's bytes. -/
def ReadImage.body (i : ReadImage) (k : Nat) : List Byte :=
  u8 k ++ u8 i.segments ++ (i.content.drop (k * segmentSize)).take segmentSize

/-- A read request taken (R185): segment 0 captures the content afresh, with the status its rule
gives; a later segment is served from the image held for the same code and fields, with the status
ACCEPTED of R185's table, a cut window of READ_MAP included (log 31). -/
def State.readSegment (s : State) (code : Byte) (fields : List Byte) (segment : Nat)
    (status : Verdict) (content : List Byte) : State × Verdict × List Byte :=
  if segment = 0 then
    let i : ReadImage := ⟨code, fields, content⟩
    (s.withLinks { s.links with image := some i }, status, i.body 0)
  else
    match s.links.image with
    | none => (s, .refused .sequence, [])
    | some i =>
      if i.code = code ∧ i.fields = fields ∧ segment < i.segments then
        (s, .accepted, i.body segment)
      else (s, .refused .sequence, [])

/-- A read refused by its owning rule: the image stays as it was. -/
def State.refuseRead (s : State) : State × Verdict × List Byte := (s, .refused .badValue, [])

/-- READ_CELL (R147, R176). -/
def serveReadCell (cell segment : Nat) : StationService := fun s =>
  match indexOf 8 cell with
  | none => s.refuseRead
  | some c => s.readSegment 0x70 (u8 cell) segment .accepted (s.cellContent c)

/-- READ_LOTS (R47). -/
def serveReadLots (lot segment : Nat) : StationService := fun s =>
  if 31 < lot then s.refuseRead
  else s.readSegment 0x71 (u8 lot) segment .accepted (s.lotsContent lot)

/-- READ_MAP (R17). -/
def serveReadMap (start count segment : Nat) : StationService := fun s =>
  let carry := s.trunk.config.carry
  if carry ≤ start ∨ count = 0 ∨ 40 < count then s.refuseRead
  else
    let n := min count (carry - start)
    s.readSegment 0x72 (u8 start ++ u8 count) segment (clampVerdict (decide (n < count)))
      (s.mapContent start n)

/-- READ_FILTER (R103). -/
def serveReadFilter (segment : Nat) : StationService := fun s =>
  s.readSegment 0x73 [] segment .accepted s.filterContent

/-- READ_BALANCE (R86, R121). -/
def serveReadBalance (segment : Nat) : StationService := fun s =>
  s.readSegment 0x74 [] segment .accepted s.balanceContent

/-- READ_BINS (R72). -/
def serveReadBins (segment : Nat) : StationService := fun s =>
  s.readSegment 0x75 [] segment .accepted s.binsContent

/-- The fields of READ_PROFILE: the start address is sent with the part MEMORY only (log 24). -/
def profileReadFields (profile part start : Nat) : List Byte :=
  u8 profile ++ u8 part ++ (if part = 3 then u16 start else [])

/-- READ_PROFILE (R161); a start address above 511 is refused BAD_VALUE (log 35). -/
def serveReadProfile (profile part start segment : Nat) : StationService := fun s =>
  match indexOf 64 profile with
  | none => s.refuseRead
  | some i =>
    if 3 < part ∨ (part = 3 ∧ presetSize ≤ start) then s.refuseRead
    else s.readSegment 0x76 (profileReadFields profile part start) segment .accepted
      (s.profileContent i part start)

/-- READ_RECIPE (R161): kind 0 names a group, kind 1 a recipe. -/
def serveReadRecipe (kind number segment : Nat) : StationService := fun s =>
  let fields := u8 kind ++ u8 number
  match kind, indexOf 16 number, indexOf 128 number with
  | 0, some g, _ => s.readSegment 0x77 fields segment .accepted s.recipes.groups[g].bytes
  | 1, _, some i => s.readSegment 0x77 fields segment .accepted (s.recipes.recipeContent i)
  | _, _, _ => s.refuseRead

/-- READ_PORTS (R189): at segment 0 with the clear flag set the image is captured first and the
flags are then cleared. The clear flag of a later segment is not read. -/
def serveReadPorts (clear segment : Nat) : StationService := fun s =>
  if segment = 0 then
    match flagOf clear with
    | none => s.refuseRead
    | some c =>
      let r := s.readSegment 0x78 [] 0 .accepted s.portsContent
      (if c then r.1.withLinks r.1.links.clearFlags else r.1, r.2)
  else s.readSegment 0x78 [] segment .accepted []

end Sys2Proof.Machine
end

