-- ==== Sys2Proof/Machine/Receive.lean ====
section
/-! DEFINITION. Requests read from bytes (R179, R183), ON_BEHALF (R186), the judging of a complete
frame (R181) and the receiver's bytes (R180). -/

namespace Sys2Proof.Machine

/-! ### Cell requests -/

/-- START_JOB as served. -/
def serveStartJob (profile : Nat) : CellService := fun c s => s.startJob c profile
/-- END_JOB as served. -/
def serveEndJob : CellService := fun c s => s.endJob c
/-- PAUSE as served. -/
def servePause : CellService := fun c s => s.pauseJob c
/-- CONTINUE as served. -/
def serveContinue : CellService := fun c s => s.continueJob c
/-- SET_FLOOD as served. -/
def serveSetFlood (flow : Nat) : CellService := fun c s => s.setCoolant c .flood flow
/-- SET_HP as served. -/
def serveSetHp (flow : Nat) : CellService := fun c s => s.setCoolant c .hp flow
/-- DISCHARGE as served. -/
def serveDischarge (flights volume notify : Nat) : CellService := fun c s =>
  s.discharge c flights volume notify
/-- DISCHARGE_END as served. -/
def serveDischargeEnd (presence volume : Nat) : CellService := fun c s =>
  s.dischargeEnd c presence volume
/-- QUERY as served. -/
def serveQuery : CellService := fun c s => s.queryCell c

/-- A cell request read from its code and field bytes; absent where their length is not the one its
fields give (R183). -/
def cellRequest (code : Nat) (fields : List Byte) : Option CellService :=
  match code with
  | 0x01 =>
    match readFields [1] fields with
    | some [p] => some (serveStartJob p)
    | _ => none
  | 0x02 => if fields = [] then some serveEndJob else none
  | 0x03 => if fields = [] then some servePause else none
  | 0x04 => if fields = [] then some serveContinue else none
  | 0x05 =>
    match readFields [2] fields with
    | some [v] => some (serveSetFlood v)
    | _ => none
  | 0x06 =>
    match readFields [2] fields with
    | some [v] => some (serveSetHp v)
    | _ => none
  | 0x07 =>
    match readFields [1, 2, 1] fields with
    | some [n, v, f] => some (serveDischarge n v f)
    | _ => none
  | 0x08 =>
    match readFields [1, 2] fields with
    | some [p, v] => some (serveDischargeEnd p v)
    | _ => none
  | 0x09 => if fields = [] then some serveQuery else none
  | _ => none

/-! ### ON_BEHALF (R186) -/

/-- The answer of an ON_BEHALF that names a cell: cell number, inner code, the cell's status block,
whose markers are cleared (R184, R186). -/
def answerBehalf (s : State) (c : Fin 8) (code : Byte) (v : Verdict) :
    State × Verdict × List Byte :=
  (s.clearMarkers c, v, u8 c.1 ++ [code] ++ s.statusBlock c)

/-- ON_BEHALF with the tests of R186 in order. One that carries no inner code is too short, and is
refused BAD_VALUE with an empty body under R183. -/
def serveOnBehalf (cell : Nat) (inner : List Byte) : StationService := fun s =>
  match indexOf 8 cell, inner with
  | none, _ => (s, .refused .badValue, [])
  | some _, [] => (s, .refused .badValue, [])
  | some c, code :: fields =>
    if !isKnownCode code then answerBehalf s c code (.refused .unknownRequest)
    else if !cellCodes.contains code then answerBehalf s c code (.refused .authority)
    else
      match cellRequest code.toNat fields with
      | none => answerBehalf s c code (.refused .badValue)
      | some f => answerBehalf (f c s).1 c code (f c s).2

/-! ### Station requests -/

/-- COMMISSION as served: the body carries the index of the offending item (R184, R192). -/
def serveCommission : StationService := fun s =>
  let r := s.commission
  (r.1, r.2.1, r.2.2.flatMap u8)
/-- DECOMMISSION as served. -/
def serveDecommission : StationService := plain fun s => s.decommission
/-- RESTART as served. -/
def serveRestart : StationService := plain fun s => s.restart
/-- WRITE_TRUNK_CONFIG as served. -/
def serveWriteTrunk (c : TrunkConfig) : StationService := plain fun s => s.writeTrunk c
/-- WRITE_CELL_CONFIG naming a cell as served. -/
def serveWriteCell (target : Nat) (c : CellConfigWrite) : StationService :=
  plain fun s => s.writeCellConfig target c
/-- WRITE_CELL_CONFIG naming SUPPLY as served. -/
def serveWriteSupply (c : SupplyConfig) : StationService := plain fun s => s.writeSupply c
/-- WRITE_FILTER_CONFIG naming a unit as served. -/
def serveWriteUnit (target : Nat) (c : UnitConfig) : StationService :=
  plain fun s => s.writeUnit target c
/-- WRITE_FILTER_CONFIG naming SLUDGE as served. -/
def serveWriteSludge (c : SludgeSettings) : StationService := plain fun s => s.writeSludge c
/-- WRITE_TANK_CONFIG as served. -/
def serveWriteTank (c : TankConfig) : StationService := plain fun s => s.writeTank c
/-- WRITE_BIN_CONFIG as served. -/
def serveWriteDelivery (c : DeliveryConfig) : StationService := plain fun s => s.writeDelivery c
/-- WRITE_SENSOR_CONFIG as served. -/
def serveWriteSensor (c : SensorConfigWrite) : StationService := plain fun s => s.writeSensor c
/-- WRITE_GROUP as served. -/
def serveWriteGroup (group base count : Nat) : StationService :=
  plain fun s => s.writeGroup group base count
/-- WRITE_RECIPE as served. -/
def serveWriteRecipe (recipe : Nat) (c : RecipeWrite) : StationService :=
  plain fun s => s.writeRecipe recipe c
/-- WRITE_PRESETS as served. -/
def serveWritePresets (start : Nat) (run : List Byte) : StationService :=
  plain fun s => s.writePresets start run
/-- WRITE_PROFILE as served. -/
def serveWriteProfile (profile : Nat) (c : ProfileWrite) : StationService :=
  plain fun s => s.writeProfile profile c
/-- ERASE_PROFILE as served. -/
def serveEraseProfile (profile : Nat) : StationService := plain fun s => s.eraseProfile profile
/-- FILTER_OFFLINE as served. -/
def serveFilterOffline (unit : Nat) : StationService := plain fun s => s.filterOffline unit
/-- FILTER_ONLINE as served. -/
def serveFilterOnline (unit : Nat) : StationService := plain fun s => s.filterOnline unit
/-- FORCE_FLUSH as served. -/
def serveForceFlush (unit : Nat) : StationService := plain fun s => s.forceFlush unit
/-- BIN_RELEASE as served. -/
def serveBinRelease (bin : Nat) : StationService := plain fun s => s.binRelease bin
/-- BIN_RESTORE as served. -/
def serveBinRestore (bin fill : Nat) : StationService := plain fun s => s.binRestore bin fill
/-- CRUSHER_CLEARED as served. -/
def serveCrusherCleared : StationService := plain fun s => s.crusherCleared
/-- CLEAR_GATE as served. -/
def serveClearGate (outlet : Nat) : StationService := plain fun s => s.clearGate outlet
/-- TRUNK_STOP as served. -/
def serveTrunkStop : StationService := plain fun s => s.trunkStop
/-- TRUNK_RUN as served. -/
def serveTrunkRun : StationService := plain fun s => s.trunkRun
/-- CLEAR_SUPPLY_FAULT as served. -/
def serveClearSupplyFault (which : Nat) : StationService := plain fun s => s.clearSupplyFault which
/-- SET_MASKS as served. -/
def serveSetMasks (range invalid overflow depleted : Nat) : StationService :=
  plain fun s => s.setMasks range invalid overflow depleted
/-- CLEAR_EXCEPTIONS as served. -/
def serveClearExceptions (selection : Nat) : StationService :=
  plain fun s => s.clearExceptions selection
/-- CLEAR_PAIR as served. -/
def serveClearPair (pair : Nat) : StationService := plain fun s => s.clearPair pair
/-- SET_ALERT_ENABLES as served. -/
def serveSetAlertEnables (enables : Vector Nat 15) : StationService :=
  plain fun s => s.setAlertEnables enables
/-- CLEAR_ALERTS as served. -/
def serveClearAlerts (selection : Nat) : StationService := plain fun s => s.clearAlerts selection

/-- A configuration record or a system request read from its code and field bytes (codes 0x20 to
0x3A). A WRITE_SENSOR_CONFIG has 65 payload bytes and does not fit a frame, so none of the right
length arrives (log 11). -/
def writeRequest (code : Nat) (fields : List Byte) : Option StationService :=
  match code with
  | 0x20 => if fields = [] then some serveCommission else none
  | 0x21 => if fields = [] then some serveDecommission else none
  | 0x22 => if fields = [] then some serveRestart else none
  | 0x30 =>
    match readFields [1, 2, 1, 1, 1, 1, 2, 1, 1, 2] fields with
    | some [l, n, d, w, f, t, o, k, c, p] => some (serveWriteTrunk ⟨l, n, d, w, f, t, o, k, c, p⟩)
    | _ => none
  | 0x31 =>
    match readFields [1, 1, 1, 2, 2, 2, 2, 2] fields, readFields [1, 2, 2, 2] fields with
    | some [t, e, o, c, f, h, g, l], _ =>
      if t = 8 then none else some (serveWriteCell t ⟨e, o, c, f, h, g, l⟩)
    | _, some [t, a, h, f] => if t = 8 then some (serveWriteSupply ⟨a, h, f⟩) else none
    | _, _ => none
  | 0x32 =>
    match readFields [1, 2, 2, 2, 2, 2] fields, readFields [1, 1, 2, 2] fields with
    | some [t, q, c, m, f, x], _ => if t = 6 then none else some (serveWriteUnit t ⟨q, c, m, f, x⟩)
    | _, some [t, f, v, c] => if t = 6 then some (serveWriteSludge ⟨f, v, c⟩) else none
    | _, _ => none
  | 0x33 =>
    match readFields [2, 2, 4, 4, 4, 2, 2] fields with
    | some [a, b, l, m, h, t, r] => some (serveWriteTank ⟨a, b, l, m, h, t, r⟩)
    | _ => none
  | 0x34 =>
    match readFields [2, 2, 2, 2, 2, 2, 1, 1, 2, 2, 2] fields with
    | some [a, b, c, d, e, j, k, u, r, p, t] =>
      some (serveWriteDelivery ⟨#v[a, b, c, d, e], j, k, u, r, p, t⟩)
    | _ => none
  | 0x36 =>
    match readFields [1, 1, 1] fields with
    | some [g, b, c] => some (serveWriteGroup g b c)
    | _ => none
  | 0x37 =>
    match readFields [1, 1, 1, 1, 1, 1, 1] fields with
    | some [r, b, m, p, j, h, f] => some (serveWriteRecipe r ⟨b, m, p, j, h, f⟩)
    | _ => none
  | 0x38 =>
    match readFields [2] (fields.take 2) with
    | some [a] => some (serveWritePresets a (fields.drop 2))
    | _ => none
  | 0x39 =>
    match readFields [1, 1, 1, 1, 1, 1, 2, 2, 2] (fields.take 12), fields.drop 12 with
    | some [p, g, i, r, k, q, s, f, h], [a, b, c, d, e, t, u, v] =>
      some (serveWriteProfile p ⟨g, i, r, k, q, s, f, h, #v[a, b, c, d, e, t, u, v]⟩)
    | _, _ => none
  | 0x3A =>
    match readFields [1] fields with
    | some [p] => some (serveEraseProfile p)
    | _ => none
  | _ => none

/-- A station request on equipment, exceptions or alerts read from its code and field bytes (codes
0x40 to 0x69). -/
def equipmentRequest (code : Nat) (fields : List Byte) : Option StationService :=
  match code, readFields [1] fields with
  | 0x40, some [u] => some (serveFilterOffline u)
  | 0x41, some [u] => some (serveFilterOnline u)
  | 0x42, some [u] => some (serveForceFlush u)
  | 0x48, some [b] => some (serveBinRelease b)
  | 0x49, _ =>
    match readFields [1, 4] fields with
    | some [b, f] => some (serveBinRestore b f)
    | _ => none
  | 0x50, _ => if fields = [] then some serveCrusherCleared else none
  | 0x51, some [o] => some (serveClearGate o)
  | 0x52, _ => if fields = [] then some serveTrunkStop else none
  | 0x53, _ => if fields = [] then some serveTrunkRun else none
  | 0x60, some [w] => some (serveClearSupplyFault w)
  | 0x61, _ =>
    match readFields [1, 1, 1, 1] fields with
    | some [r, i, o, d] => some (serveSetMasks r i o d)
    | _ => none
  | 0x62, some [x] => some (serveClearExceptions x)
  | 0x63, some [p] => some (serveClearPair p)
  | 0x68, _ =>
    match readFields (List.replicate 15 1) fields with
    | some [a, b, c, d, e, f, g, h, i, j, k, l, m, n, o] =>
      some (serveSetAlertEnables #v[a, b, c, d, e, f, g, h, i, j, k, l, m, n, o])
    | _ => none
  | 0x69, _ =>
    match readFields [2] fields with
    | some [x] => some (serveClearAlerts x)
    | _ => none
  | _, _ => none

/-- READ_PROFILE read from its field bytes: the part MEMORY has a start address (log 24). An unknown
part is refused by the owning rule whatever the length. -/
def readProfileRequest (fields : List Byte) : Option StationService :=
  match readFields [1, 1, 1] fields, readFields [1, 1, 2, 1] fields with
  | some [p, t, k], _ => if t = 3 then none else some (serveReadProfile p t 0 k)
  | _, some [p, t, a, k] => if t = 3 then some (serveReadProfile p t a k) else none
  | _, _ => none

/-- A station read or ON_BEHALF read from its code and field bytes (codes 0x70 to 0x7F). -/
def readRequest (code : Nat) (fields : List Byte) : Option StationService :=
  match code, readFields [1] fields, readFields [1, 1] fields, readFields [1, 1, 1] fields with
  | 0x70, _, some [c, k], _ => some (serveReadCell c k)
  | 0x71, _, some [l, k], _ => some (serveReadLots l k)
  | 0x72, _, _, some [a, n, k] => some (serveReadMap a n k)
  | 0x73, some [k], _, _ => some (serveReadFilter k)
  | 0x74, some [k], _, _ => some (serveReadBalance k)
  | 0x75, some [k], _, _ => some (serveReadBins k)
  | 0x76, _, _, _ => readProfileRequest fields
  | 0x77, _, _, some [d, n, k] => some (serveReadRecipe d n k)
  | 0x78, _, some [c, k], _ => some (serveReadPorts c k)
  | 0x7F, _, _, _ =>
    match fields with
    | c :: inner => some (serveOnBehalf c.toNat inner)
    | [] => none
  | _, _, _, _ => none

/-- A station request read from its code and field bytes; absent where their length is not the one
its fields give (R183). -/
def stationRequest (code : Nat) (fields : List Byte) : Option StationService :=
  if code < 0x40 then writeRequest code fields
  else if code < 0x70 then equipmentRequest code fields
  else readRequest code fields

/-- A request's payload taken on a port, with the tests of R183 in order. -/
def State.takePayload (s : State) (p : Port) (payload : List Byte) : State :=
  match payload with
  | [] => s
  | code :: fields =>
    if !isKnownCode code then s.refuse p code .unknownRequest
    else if cellCodes.contains code then
      match p, cellRequest code.toNat fields with
      | .cell _, some f => s.takeCell p code f
      | _, _ => s.refuse p code .badValue
    else
      match p, stationRequest code.toNat fields with
      | .cell _, _ => s.refuse p code .authority
      | _, some f => s.takeStation p code f
      | _, none => s.refuse p code .badValue

/-! ### A complete frame (R181) -/

/-- The payload length a frame states. -/
def statedLength (bytes : List Byte) : Nat := (bytes.getD 2 0).toNat

/-- The payload of a complete frame. -/
def framePayload (bytes : List Byte) : List Byte := (bytes.drop 3).take (statedLength bytes)

/-- The tests of R181 on the bytes of a complete frame: kind, payload length, check. -/
def isSound (p : Port) (bytes : List Byte) : Bool :=
  let n := statedLength bytes
  let suits :=
    match p with
    | .sample => bytes.getD 1 0 == kindSampleSet && n == 30
    | _ => bytes.getD 1 0 == kindRequest && within 1 48 n
  suits && bytes == frameOf (bytes.getD 1 0) (framePayload bytes)

/-- A reading of a sample-set payload (R182). -/
def payloadReading (payload : List Byte) (c : Nat) : Nat := readNat ((payload.drop (2 * c)).take 2)

/-- The sample set of a payload (R182). -/
def sampleSetOf (payload : List Byte) : SampleSet where
  readings := Vector.ofFn fun c : Fin 14 => payloadReading payload c.1
  valid := Vector.ofFn fun c : Fin 14 => (payloadReading payload 14).testBit c.1

/-- A well-formed sample set on the sample port: counted, and taken by the receiver (R75, R181). -/
def State.sampleFrame (s : State) (set : SampleSet) : State :=
  (s.countFrame .sample).sampleArrival set

/-- A complete frame judged, and taken where it is well-formed (R181, log 6). -/
def State.judgeFrame (s : State) (p : Port) (bytes : List Byte) : State :=
  if isSound p bytes then
    match p with
    | .sample => s.sampleFrame (sampleSetOf (framePayload bytes))
    | _ => s.requestFrame p fun s => s.takePayload p (framePayload bytes)
  else s.dropFrame p

/-- Whether a sound frame would be taken on a port: on a port that sends replies, its reply queue
has room (R181). -/
def State.hasRoom (s : State) (p : Port) : Bool :=
  match txIndex p with
  | none => true
  | some t => decide (s.links.tx[t].replies.length < 4)

/-- A complete frame that R181 drops; a frame that R181 takes is none of this row's and has no
effect here (log 18). -/
def State.droppedFrame (s : State) (p : Port) (bytes : List Byte) : State :=
  if isSound p bytes then (if s.hasRoom p then s else s.requestFrame p fun s => s) else s.dropFrame p

/-! ### Bytes (R180) -/

/-- A byte joins a frame in progress, and the gap timer starts afresh (R180). -/
def Receiver.hold (r : Receiver) (bytes : List Byte) : Receiver :=
  { r with state := .inFrame bytes, gap := .running Config.gapTime }

/-- A byte taken in IN_FRAME (R180): `bytes` is the frame with the byte. -/
def State.frameByte (s : State) (p : Port) (bytes : List Byte) : State :=
  let n := bytes.length
  if (n = 2 ∧ !kindCheck (bytes.getD 1 0)) ∨ (n = 3 ∧ 48 < statedLength bytes) then s.dropFrame p
  else if 3 ≤ n ∧ 5 + statedLength bytes ≤ n then s.judgeFrame p bytes
  else s.updateRx p fun r => r.hold bytes

/-- A byte arriving at a port's receiver (R180). -/
def State.receiveByte (s : State) (p : Port) (b : Byte) : State :=
  match s.links.rx[rxIndex p].state with
  | .hunt =>
    if b = sync then s.updateRx p fun r => r.hold [b]
    else s.updateRx p fun r => { r with framingSeen := true }
  | .inFrame bytes => s.frameByte p (bytes ++ [b])

/-- The expiry of a port's gap timer: the frame in progress is abandoned (R180). -/
def State.gapExpiry (s : State) (p : Port) : State :=
  if s.links.rx[rxIndex p].gap.isRunning then s.dropFrame p else s

end Sys2Proof.Machine
end

