-- ==== Sys2Proof/Machine/Events.lean ====
section
/-! DEFINITION. The meanings of the events: power, lines, sample sets, timers, internal moments, the
link interface's own rows; and the passing of a millisecond (log 1). Each ends with flags,
transmitters and lines brought up to date (`State.finish`, log 4). -/

namespace Sys2Proof.Machine

/-- What a command answers: the part never stops, so always a next state. -/
abbrev Answer := Host.Outcome State Fault Refusal

/-- The end of an event. -/
def State.answer (s : State) : Answer := .next s.finish

/-! ### Power and lines -/

/-- POWER_ON (R191, and the power-on rules of every chapter); the lines the part is wired to keep
their levels (log 25). -/
def execPowerOn (s : State) : Answer := .next (State.powerOn s.inputs s.pending s.freeCount)

/-- PITCH_EVENT (R3 to R6). -/
def execPitchEvent (s : State) : Answer := s.pitch.answer

/-- HOME_MARK (R7 to R13). -/
def execHomeMark (s : State) : Answer := s.homeMark.answer

/-- ROUTING_SETTLED_CHANGE (R61). -/
def execRoutingSettledChange (level : Bool) (s : State) : Answer :=
  (s.routingSettled level).settle.answer

/-- BIN_PRESENT_CHANGE (R70). -/
def execBinPresentChange (bin : Fin 5) (level : Bool) (s : State) : Answer :=
  (s.binPresent bin level).settle.answer

/-- GATE_CLOSED_CHANGE (R38). -/
def execGateClosedChange (outlet : Fin 9) (level : Bool) (s : State) : Answer :=
  (s.gateClosed outlet level).settle.answer

/-- FLUSH_DONE (R98). -/
def execFlushDone (unit : Fin 6) (level : Bool) (s : State) : Answer :=
  (s.flushDone unit level).settle.answer

/-! ### Timers: an expiry acts on a running timer (log 1) -/

/-- STALENESS_TIMER_EXPIRY (R78). -/
def execStalenessTimerExpiry (s : State) : Answer := (s.withSamples s.samples.expire).answer

/-- REVERSE_TIMER_EXPIRY (R59). -/
def execReverseTimerExpiry (s : State) : Answer := s.reverseExpiry.answer

/-- PROBE_TIMER_EXPIRY (R59). -/
def execProbeTimerExpiry (s : State) : Answer := s.probeExpiry.answer

/-- DRAIN_TIMER_EXPIRY (R55). -/
def execDrainTimerExpiry (s : State) : Answer :=
  (if s.crusher.drain.isRunning then s.drainExpiry.settle else s).answer

/-- ROUTING_TIMER_EXPIRY (R63). -/
def execRoutingTimerExpiry (s : State) : Answer := s.routingExpiry.settle.answer

/-- GATE_TIMER_EXPIRY (R39). -/
def execGateTimerExpiry (outlet : Fin 9) (s : State) : Answer := (s.gateExpiry outlet).settle.answer

/-- FLUSH_TIMER_EXPIRY (R100). -/
def execFlushTimerExpiry (unit : Fin 6) (s : State) : Answer := (s.flushExpiry unit).settle.answer

/-- SETTLE_TIMER_EXPIRY (R125). -/
def execSettleTimerExpiry (cell : Fin 8) (kind : ValveKind) (s : State) : Answer :=
  (s.settleExpiry cell kind).settle.answer

/-- STEP_TIMER_EXPIRY (R138). -/
def execStepTimerExpiry (s : State) : Answer := s.stepExpiry.answer

/-- LINK_TIMER_EXPIRY (R165, R166). -/
def execLinkTimerExpiry (cell : Fin 8) (s : State) : Answer := (s.linkExpiry cell).settle.answer

/-- GAP_TIMER_EXPIRY (R180). -/
def execGapTimerExpiry (port : Port) (s : State) : Answer := (s.gapExpiry port).answer

/-! ### Internal moments -/

/-- ROUTING_MOVE (R62): the routing unit's examination, which starts a move where one may start
(log 17). -/
def execRoutingMove (s : State) : Answer := (Event.of s).needExam.settle.answer

/-- HELD_SLUDGE_REQUEST_TAKEN_UP (R44): a held request becomes a lot where it can, and a pending
pass runs (log 17). -/
def execHeldSludgeRequestTakenUp (s : State) : Answer := (Event.of s).takeUpHeld.settle.answer

/-! ### The link interface's rows -/

/-- SAMPLE_SET: a well-formed set on the sample port (R75, R181). -/
def execSampleSet (set : SampleSet) (s : State) : Answer := (s.sampleFrame set).answer

/-- FRAME_DROPPED (R181, log 18). -/
def execFrameDropped (port : Port) (bytes : List Byte) (s : State) : Answer :=
  (s.droppedFrame port bytes).answer

/-- FRAME_SENT (R188): the end of the frame a port is sending. -/
def execFrameSent (port : Port) (s : State) : Answer :=
  (match txIndex port with
    | some t => s.endFrame t
    | none => s).answer

/-- UNKNOWN_REQUEST (R183): a code of the table is none of this row's (log 18). -/
def execUnknownRequest (port : Port) (code : Byte) (s : State) : Answer :=
  (if isKnownCode code then s
   else s.requestFrame port fun s => s.refuse port code .unknownRequest).answer

/-- RECEIVED_BYTE (R180, log 6). -/
def execReceivedByte (port : Port) (byte : Byte) (s : State) : Answer :=
  (s.receiveByte port byte).answer

/-! ### The passing of a millisecond (log 1) -/

/-- A valve one millisecond later. -/
def Valve.tick (v : Valve) : Valve := { v with timer := v.timer.tick }

/-- The trunk's blocks one millisecond later: gate, crusher and routing timers. -/
def State.tickPlant (s : State) : State :=
  ((s.withOutlets (s.outlets.map fun x => { x with timer := x.timer.tick })).withCrusher
    { s.crusher with
      drain := s.crusher.drain.tick
      reverse := s.crusher.reverse.tick
      probe := s.crusher.probe.tick }).withRouting
        { s.routing with timer := s.routing.timer.tick }

/-- The coolant's blocks one millisecond later: staleness, flush, settle and step timers. -/
def State.tickCoolant (s : State) : State :=
  ((s.withSamples { s.samples with timer := s.samples.timer.tick }).withFilter
    { s.filter with units := s.filter.units.map fun x => { x with timer := x.timer.tick } }
      ).withGrants
    { s.grants with
      valves := s.grants.valves.map fun v => ⟨v.flood.tick, v.hp.tick⟩
      shed := { s.grants.shed with timer := s.grants.shed.timer.tick } }

/-- The links one millisecond later: link and gap timers. -/
def State.tickLinks (s : State) : State :=
  (s.withCells (s.cells.map fun x => { x with linkTimer := x.linkTimer.tick })).withLinks
    { s.links with rx := s.links.rx.map fun r => { r with gap := r.gap.tick } }

/-- One millisecond passes: every running timer counts down. -/
def State.elapse (s : State) : State := s.tickPlant.tickCoolant.tickLinks

/-- The command if its timer is due. -/
def ifDue (due : Bool) (c : Instr) : List Instr := if due then [c] else []

/-- The ten ports. -/
def allPorts : List Port := (List.finRange 8).map Port.cell ++ [.station, .sample]

/-- The expiries of the timers that have run down. -/
def State.dueTimers (s : State) : List Instr :=
  ifDue s.samples.timer.isDue .stalenessTimerExpiry ++
  ifDue s.crusher.reverse.isDue .reverseTimerExpiry ++
  ifDue s.crusher.probe.isDue .probeTimerExpiry ++
  ifDue s.crusher.drain.isDue .drainTimerExpiry ++
  ifDue s.routing.timer.isDue .routingTimerExpiry ++
  ((List.finRange 9).flatMap fun o => ifDue s.outlets[o].timer.isDue (.gateTimerExpiry o)) ++
  ((List.finRange 6).flatMap fun u => ifDue s.filter.units[u].timer.isDue (.flushTimerExpiry u)) ++
  (allValves.flatMap fun x => ifDue (s.valve x.1 x.2).timer.isDue (.settleTimerExpiry x.1 x.2)) ++
  ifDue s.grants.shed.timer.isDue .stepTimerExpiry ++
  ((List.finRange 8).flatMap fun c => ifDue s.cells[c].linkTimer.isDue (.linkTimerExpiry c)) ++
  allPorts.flatMap fun p => ifDue s.links.rx[rxIndex p].gap.isDue (.gapTimerExpiry p)

/-- The expiry taken when several timers are due: the free value of `Config.dueOrder`, modulo how
many are due, picks it (log 2). -/
def chooseDue (n : Nat) (c : Instr) (due : List Instr) : Instr :=
  due.getD (Config.dueOrder n % due.length) c

end Sys2Proof.Machine
end

