-- ==== Sys2Proof/Machine/Requests.lean ====
section
/-! DEFINITION. The meanings of the request rows: a row stands for a whole well-formed frame of its
request completing on a port (log 5). -/

namespace Sys2Proof.Machine

/-- A cell request completing on a port. -/
def State.cellRow (s : State) (p : Port) (code : Byte) (serve : CellService) : Answer :=
  (s.requestFrame p fun s => s.takeCell p code serve).answer

/-- A station request completing on a port. -/
def State.stationRow (s : State) (p : Port) (code : Byte) (serve : StationService) : Answer :=
  (s.requestFrame p fun s => s.takeStation p code serve).answer

/-! ### Cell requests -/

/-- START_JOB (R167 to R169). -/
def execStartJob (port : Port) (profile : Nat) (s : State) : Answer :=
  s.cellRow port 0x01 (serveStartJob profile)

/-- END_JOB (R171, R172). -/
def execEndJob (port : Port) (s : State) : Answer := s.cellRow port 0x02 serveEndJob

/-- PAUSE (R173). -/
def execPause (port : Port) (s : State) : Answer := s.cellRow port 0x03 servePause

/-- CONTINUE (R174). -/
def execContinueJob (port : Port) (s : State) : Answer := s.cellRow port 0x04 serveContinue

/-- SET_FLOOD (R126 to R128). -/
def execSetFlood (port : Port) (flow : Nat) (s : State) : Answer :=
  s.cellRow port 0x05 (serveSetFlood flow)

/-- SET_HP (R126 to R128). -/
def execSetHp (port : Port) (flow : Nat) (s : State) : Answer :=
  s.cellRow port 0x06 (serveSetHp flow)

/-- DISCHARGE (R24, R25). -/
def execDischarge (port : Port) (flights volume notify : Nat) (s : State) : Answer :=
  s.cellRow port 0x07 (serveDischarge flights volume notify)

/-- DISCHARGE_END (R26, R27). -/
def execDischargeEnd (port : Port) (presence volume : Nat) (s : State) : Answer :=
  s.cellRow port 0x08 (serveDischargeEnd presence volume)

/-- QUERY (R176). -/
def execQuery (port : Port) (s : State) : Answer := s.cellRow port 0x09 serveQuery

/-! ### Station requests and reads -/

/-- COMMISSION (R192). -/
def execCommission (port : Port) (s : State) : Answer := s.stationRow port 0x20 serveCommission

/-- DECOMMISSION (R193). -/
def execDecommission (port : Port) (s : State) : Answer := s.stationRow port 0x21 serveDecommission

/-- RESTART (R194). -/
def execRestart (port : Port) (s : State) : Answer := s.stationRow port 0x22 serveRestart

/-- WRITE_TRUNK_CONFIG (R2). -/
def execWriteTrunkConfig (port : Port) (config : TrunkConfig) (s : State) : Answer :=
  s.stationRow port 0x30 (serveWriteTrunk config)

/-- WRITE_CELL_CONFIG naming a cell (R164). -/
def execWriteCellConfig (port : Port) (target : Nat) (config : CellConfigWrite) (s : State) : Answer :=
  s.stationRow port 0x31 (serveWriteCell target config)

/-- WRITE_CELL_CONFIG naming SUPPLY (R123). -/
def execWriteCellConfigSupply (port : Port) (config : SupplyConfig) (s : State) : Answer :=
  s.stationRow port 0x31 (serveWriteSupply config)

/-- WRITE_FILTER_CONFIG naming a unit (R89). -/
def execWriteFilterConfig (port : Port) (target : Nat) (config : UnitConfig) (s : State) : Answer :=
  s.stationRow port 0x32 (serveWriteUnit target config)

/-- WRITE_FILTER_CONFIG naming SLUDGE (R90). -/
def execWriteFilterConfigSludge (port : Port) (config : SludgeSettings) (s : State) : Answer :=
  s.stationRow port 0x32 (serveWriteSludge config)

/-- WRITE_TANK_CONFIG (R106). -/
def execWriteTankConfig (port : Port) (config : TankConfig) (s : State) : Answer :=
  s.stationRow port 0x33 (serveWriteTank config)

/-- WRITE_BIN_CONFIG (R49). -/
def execWriteBinConfig (port : Port) (config : DeliveryConfig) (s : State) : Answer :=
  s.stationRow port 0x34 (serveWriteDelivery config)

/-- WRITE_SENSOR_CONFIG (R76, log 11). -/
def execWriteSensorConfig (port : Port) (config : SensorConfigWrite) (s : State) : Answer :=
  s.stationRow port 0x35 (serveWriteSensor config)

/-- WRITE_GROUP (R149). -/
def execWriteGroup (port : Port) (group base count : Nat) (s : State) : Answer :=
  s.stationRow port 0x36 (serveWriteGroup group base count)

/-- WRITE_RECIPE (R150). -/
def execWriteRecipe (port : Port) (recipe : Nat) (config : RecipeWrite) (s : State) : Answer :=
  s.stationRow port 0x37 (serveWriteRecipe recipe config)

/-- WRITE_PRESETS (R157). -/
def execWritePresets (port : Port) (start : Nat) (run : List Byte) (s : State) : Answer :=
  s.stationRow port 0x38 (serveWritePresets start run)

/-- WRITE_PROFILE (R155). -/
def execWriteProfile (port : Port) (profile : Nat) (config : ProfileWrite) (s : State) : Answer :=
  s.stationRow port 0x39 (serveWriteProfile profile config)

/-- ERASE_PROFILE (R156). -/
def execEraseProfile (port : Port) (profile : Nat) (s : State) : Answer :=
  s.stationRow port 0x3A (serveEraseProfile profile)

/-- FILTER_OFFLINE (R101). -/
def execFilterOffline (port : Port) (unit : Nat) (s : State) : Answer :=
  s.stationRow port 0x40 (serveFilterOffline unit)

/-- FILTER_ONLINE (R102). -/
def execFilterOnline (port : Port) (unit : Nat) (s : State) : Answer :=
  s.stationRow port 0x41 (serveFilterOnline unit)

/-- FORCE_FLUSH (R92). -/
def execForceFlush (port : Port) (unit : Nat) (s : State) : Answer :=
  s.stationRow port 0x42 (serveForceFlush unit)

/-- BIN_RELEASE (R69). -/
def execBinRelease (port : Port) (bin : Nat) (s : State) : Answer :=
  s.stationRow port 0x48 (serveBinRelease bin)

/-- BIN_RESTORE (R71). -/
def execBinRestore (port : Port) (bin fill : Nat) (s : State) : Answer :=
  s.stationRow port 0x49 (serveBinRestore bin fill)

/-- CRUSHER_CLEARED (R60). -/
def execCrusherCleared (port : Port) (s : State) : Answer :=
  s.stationRow port 0x50 serveCrusherCleared

/-- CLEAR_GATE (R40). -/
def execClearGate (port : Port) (outlet : Nat) (s : State) : Answer :=
  s.stationRow port 0x51 (serveClearGate outlet)

/-- TRUNK_STOP (R15). -/
def execTrunkStop (port : Port) (s : State) : Answer := s.stationRow port 0x52 serveTrunkStop

/-- TRUNK_RUN (R15). -/
def execTrunkRun (port : Port) (s : State) : Answer := s.stationRow port 0x53 serveTrunkRun

/-- CLEAR_SUPPLY_FAULT (R144). -/
def execClearSupplyFault (port : Port) (which : Nat) (s : State) : Answer :=
  s.stationRow port 0x60 (serveClearSupplyFault which)

/-- SET_MASKS (R119). -/
def execSetMasks (port : Port) (range invalid overflow depleted : Nat) (s : State) : Answer :=
  s.stationRow port 0x61 (serveSetMasks range invalid overflow depleted)

/-- CLEAR_EXCEPTIONS (R120). -/
def execClearExceptions (port : Port) (selection : Nat) (s : State) : Answer :=
  s.stationRow port 0x62 (serveClearExceptions selection)

/-- CLEAR_PAIR (R82). -/
def execClearPair (port : Port) (pair : Nat) (s : State) : Answer :=
  s.stationRow port 0x63 (serveClearPair pair)

/-- SET_ALERT_ENABLES (R196). -/
def execSetAlertEnables (port : Port) (enables : Vector Nat 15) (s : State) : Answer :=
  s.stationRow port 0x68 (serveSetAlertEnables enables)

/-- CLEAR_ALERTS (R196). -/
def execClearAlerts (port : Port) (selection : Nat) (s : State) : Answer :=
  s.stationRow port 0x69 (serveClearAlerts selection)

/-- READ_CELL (R147, R176, R185). -/
def execReadCell (port : Port) (cell segment : Nat) (s : State) : Answer :=
  s.stationRow port 0x70 (serveReadCell cell segment)

/-- READ_LOTS (R47, R185). -/
def execReadLots (port : Port) (lot segment : Nat) (s : State) : Answer :=
  s.stationRow port 0x71 (serveReadLots lot segment)

/-- READ_MAP (R17, R185). -/
def execReadMap (port : Port) (start count segment : Nat) (s : State) : Answer :=
  s.stationRow port 0x72 (serveReadMap start count segment)

/-- READ_FILTER (R103, R185). -/
def execReadFilter (port : Port) (segment : Nat) (s : State) : Answer :=
  s.stationRow port 0x73 (serveReadFilter segment)

/-- READ_BALANCE (R86, R121, R185). -/
def execReadBalance (port : Port) (segment : Nat) (s : State) : Answer :=
  s.stationRow port 0x74 (serveReadBalance segment)

/-- READ_BINS (R72, R185). -/
def execReadBins (port : Port) (segment : Nat) (s : State) : Answer :=
  s.stationRow port 0x75 (serveReadBins segment)

/-- READ_PROFILE (R161, R185). -/
def execReadProfile (port : Port) (profile part start segment : Nat) (s : State) : Answer :=
  s.stationRow port 0x76 (serveReadProfile profile part start segment)

/-- READ_RECIPE (R161, R185). -/
def execReadRecipe (port : Port) (kind number segment : Nat) (s : State) : Answer :=
  s.stationRow port 0x77 (serveReadRecipe kind number segment)

/-- READ_PORTS (R185, R189, R197). -/
def execReadPorts (port : Port) (clear segment : Nat) (s : State) : Answer :=
  s.stationRow port 0x78 (serveReadPorts clear segment)

/-- ON_BEHALF (R186). -/
def execOnBehalf (port : Port) (cell : Nat) (inner : List Byte) (s : State) : Answer :=
  s.stationRow port 0x7F (serveOnBehalf cell inner)

end Sys2Proof.Machine
end

