-- ==== Sys2Proof/Machine/Dispatch.lean ====
section
/-! DEFINITION. The dispatch: one arm for each command. -/

namespace Sys2Proof.Machine

def exec (i : Instr) (s : State) : Host.Outcome State Fault Refusal :=
  match i with
  | .powerOn => Sys2Proof.Machine.execPowerOn s
  | .pitchEvent => Sys2Proof.Machine.execPitchEvent s
  | .homeMark => Sys2Proof.Machine.execHomeMark s
  | .sampleSet set => Sys2Proof.Machine.execSampleSet set s
  | .stalenessTimerExpiry => Sys2Proof.Machine.execStalenessTimerExpiry s
  | .reverseTimerExpiry => Sys2Proof.Machine.execReverseTimerExpiry s
  | .probeTimerExpiry => Sys2Proof.Machine.execProbeTimerExpiry s
  | .drainTimerExpiry => Sys2Proof.Machine.execDrainTimerExpiry s
  | .routingSettledChange level => Sys2Proof.Machine.execRoutingSettledChange level s
  | .routingMove => Sys2Proof.Machine.execRoutingMove s
  | .routingTimerExpiry => Sys2Proof.Machine.execRoutingTimerExpiry s
  | .binPresentChange bin level => Sys2Proof.Machine.execBinPresentChange bin level s
  | .gateClosedChange outlet level => Sys2Proof.Machine.execGateClosedChange outlet level s
  | .gateTimerExpiry outlet => Sys2Proof.Machine.execGateTimerExpiry outlet s
  | .heldSludgeRequestTakenUp => Sys2Proof.Machine.execHeldSludgeRequestTakenUp s
  | .flushDone unit level => Sys2Proof.Machine.execFlushDone unit level s
  | .flushTimerExpiry unit => Sys2Proof.Machine.execFlushTimerExpiry unit s
  | .settleTimerExpiry cell kind => Sys2Proof.Machine.execSettleTimerExpiry cell kind s
  | .stepTimerExpiry => Sys2Proof.Machine.execStepTimerExpiry s
  | .linkTimerExpiry cell => Sys2Proof.Machine.execLinkTimerExpiry cell s
  | .gapTimerExpiry port => Sys2Proof.Machine.execGapTimerExpiry port s
  | .frameDropped port bytes => Sys2Proof.Machine.execFrameDropped port bytes s
  | .frameSent port => Sys2Proof.Machine.execFrameSent port s
  | .unknownRequest port code => Sys2Proof.Machine.execUnknownRequest port code s
  | .startJob port profile => Sys2Proof.Machine.execStartJob port profile s
  | .endJob port => Sys2Proof.Machine.execEndJob port s
  | .pause port => Sys2Proof.Machine.execPause port s
  | .continueJob port => Sys2Proof.Machine.execContinueJob port s
  | .setFlood port flow => Sys2Proof.Machine.execSetFlood port flow s
  | .setHp port flow => Sys2Proof.Machine.execSetHp port flow s
  | .discharge port flights volume notify => Sys2Proof.Machine.execDischarge port flights volume notify s
  | .dischargeEnd port presence volume => Sys2Proof.Machine.execDischargeEnd port presence volume s
  | .query port => Sys2Proof.Machine.execQuery port s
  | .commission port => Sys2Proof.Machine.execCommission port s
  | .decommission port => Sys2Proof.Machine.execDecommission port s
  | .restart port => Sys2Proof.Machine.execRestart port s
  | .writeTrunkConfig port config => Sys2Proof.Machine.execWriteTrunkConfig port config s
  | .writeCellConfig port target config => Sys2Proof.Machine.execWriteCellConfig port target config s
  | .writeCellConfigSupply port config => Sys2Proof.Machine.execWriteCellConfigSupply port config s
  | .writeFilterConfig port target config => Sys2Proof.Machine.execWriteFilterConfig port target config s
  | .writeFilterConfigSludge port config => Sys2Proof.Machine.execWriteFilterConfigSludge port config s
  | .writeTankConfig port config => Sys2Proof.Machine.execWriteTankConfig port config s
  | .writeBinConfig port config => Sys2Proof.Machine.execWriteBinConfig port config s
  | .writeSensorConfig port config => Sys2Proof.Machine.execWriteSensorConfig port config s
  | .writeGroup port group base count => Sys2Proof.Machine.execWriteGroup port group base count s
  | .writeRecipe port recipe config => Sys2Proof.Machine.execWriteRecipe port recipe config s
  | .writePresets port start run => Sys2Proof.Machine.execWritePresets port start run s
  | .writeProfile port profile config => Sys2Proof.Machine.execWriteProfile port profile config s
  | .eraseProfile port profile => Sys2Proof.Machine.execEraseProfile port profile s
  | .filterOffline port unit => Sys2Proof.Machine.execFilterOffline port unit s
  | .filterOnline port unit => Sys2Proof.Machine.execFilterOnline port unit s
  | .forceFlush port unit => Sys2Proof.Machine.execForceFlush port unit s
  | .binRelease port bin => Sys2Proof.Machine.execBinRelease port bin s
  | .binRestore port bin fill => Sys2Proof.Machine.execBinRestore port bin fill s
  | .crusherCleared port => Sys2Proof.Machine.execCrusherCleared port s
  | .clearGate port outlet => Sys2Proof.Machine.execClearGate port outlet s
  | .trunkStop port => Sys2Proof.Machine.execTrunkStop port s
  | .trunkRun port => Sys2Proof.Machine.execTrunkRun port s
  | .clearSupplyFault port which => Sys2Proof.Machine.execClearSupplyFault port which s
  | .setMasks port range invalid overflow depleted => Sys2Proof.Machine.execSetMasks port range invalid overflow depleted s
  | .clearExceptions port selection => Sys2Proof.Machine.execClearExceptions port selection s
  | .clearPair port pair => Sys2Proof.Machine.execClearPair port pair s
  | .setAlertEnables port enables => Sys2Proof.Machine.execSetAlertEnables port enables s
  | .clearAlerts port selection => Sys2Proof.Machine.execClearAlerts port selection s
  | .readCell port cell segment => Sys2Proof.Machine.execReadCell port cell segment s
  | .readLots port lot segment => Sys2Proof.Machine.execReadLots port lot segment s
  | .readMap port start count segment => Sys2Proof.Machine.execReadMap port start count segment s
  | .readFilter port segment => Sys2Proof.Machine.execReadFilter port segment s
  | .readBalance port segment => Sys2Proof.Machine.execReadBalance port segment s
  | .readBins port segment => Sys2Proof.Machine.execReadBins port segment s
  | .readProfile port profile part start segment => Sys2Proof.Machine.execReadProfile port profile part start segment s
  | .readRecipe port kind number segment => Sys2Proof.Machine.execReadRecipe port kind number segment s
  | .readPorts port clear segment => Sys2Proof.Machine.execReadPorts port clear segment s
  | .onBehalf port cell inner => Sys2Proof.Machine.execOnBehalf port cell inner s
  | .receivedByte port byte => Sys2Proof.Machine.execReceivedByte port byte s

end Sys2Proof.Machine
end

