-- ==== Sys2Proof/Machine/Step.lean ====
section
/-! DEFINITION. One step: the command at the front of the queue; with an empty queue the expiry of a
timer that has run down, or else one millisecond (log 1, log 2). -/

namespace Sys2Proof.Machine

/-- A step on an empty queue. -/
def idleStep (s : State) : Host.Outcome State Fault Refusal :=
  match s.dueTimers with
  | [] => .next s.elapse
  | [c] => exec c s
  | c :: d :: rest => exec (chooseDue s.freeCount c (c :: d :: rest)) (s.withFreeCount (s.freeCount + 1))

/-- One step of the part. -/
def step (s : State) : Host.Outcome State Fault Refusal :=
  match s.pending with
  | c :: rest => exec c (s.withPending rest)
  | [] => idleStep s

/-- The state with the command a word spells put at the front of its queue; no row of the table has
bits, so no word spells a command and the state is unchanged (log 23). -/
def State.withFetchWord (s : State) (_nbits _w : Nat) : State := s

end Sys2Proof.Machine
end

