-- ==== Sys2Proof/WellFormed.lean ====
section
/-! DEFINITION. Which commands can stand in the queue: the operands fit the widths their fields are
sent in (R179, R182), a request arrives on a port that sends replies, and a row that concerns frames
names a frame of its kind. A value in range of its width that the owning rule does not take is well
formed: the rule refuses it. -/

namespace Sys2Proof

open Machine

/-- Every value fits the number of bytes beside it (R179). -/
def fits (fields : List (Nat × Nat)) : Bool := fields.all fun x => decide (x.2 < 256 ^ x.1)

/-- The field widths of R2. -/
def TrunkConfig.fits (c : TrunkConfig) : Bool :=
  Sys2Proof.fits [(1, c.carry), (2, c.beltLength), (1, c.routingLead), (1, c.gateLead),
    (1, c.flushOffset), (1, c.tolerance), (2, c.overloadLimit), (1, c.overloadSets),
    (1, c.flightCapacity), (2, c.pitchPeriod)]

/-- The field widths of R164. -/
def CellConfigWrite.fits (c : CellConfigWrite) : Bool :=
  Sys2Proof.fits [(1, c.enabled), (1, c.outletOffset), (2, c.closeTime), (2, c.floodMax), (2, c.hpMax),
    (2, c.floor), (2, c.linkTimeout)]

/-- The field widths of R123. -/
def SupplyConfig.fits (c : SupplyConfig) : Bool :=
  Sys2Proof.fits [(2, c.settleTime), (2, c.hpLow), (2, c.floodLow)]

/-- The field widths of R89. -/
def UnitConfig.fits (c : UnitConfig) : Bool :=
  Sys2Proof.fits [(2, c.ratedFlow), (2, c.dpClean), (2, c.dpMax), (2, c.dpFlush), (2, c.flushTime)]

/-- The field widths of R90. -/
def SludgeSettings.fits (c : SludgeSettings) : Bool :=
  Sys2Proof.fits [(1, c.flights), (2, c.volume), (2, c.closeTime)]

/-- The field widths of R106. -/
def TankConfig.fits (c : TankConfig) : Bool :=
  Sys2Proof.fits [(2, c.cleanArea), (2, c.dirtyArea), (4, c.vLow), (4, c.vLowLow), (4, c.vDirtyHigh),
    (2, c.horizon), (2, c.margin)]

/-- The field widths of R49. -/
def DeliveryConfig.fits (c : DeliveryConfig) : Bool :=
  c.capacity.toList.all (fun x => decide (x < 65536)) &&
  Sys2Proof.fits [(2, c.jamThreshold), (1, c.jamSets), (1, c.untrackedAllowance), (2, c.reverseTime),
    (2, c.probeTime), (2, c.routingTime)]

/-- The field widths of R76. -/
def SensorConfigWrite.fits (c : SensorConfigWrite) : Bool :=
  c.spans.toList.all (fun x => decide (x.lo < 65536) && decide (x.hi < 65536)) &&
  Sys2Proof.fits [(2, c.staleness), (2, c.cleanTolerance), (2, c.dirtyTolerance), (1, c.cleanAutoClear),
    (1, c.dirtyAutoClear)]

/-- The field widths of R150. -/
def RecipeWrite.fits (c : RecipeWrite) : Bool :=
  Sys2Proof.fits [(1, c.bin), (1, c.mode), (1, c.purge), (1, c.jamAllowance), (1, c.hpPermitted),
    (1, c.maxFlights)]

/-- The field widths of R155. -/
def ProfileWrite.fits (c : ProfileWrite) : Bool :=
  Sys2Proof.fits [(1, c.group), (1, c.recipeIndex), (1, c.priority), (1, c.keep), (1, c.presets),
    (2, c.presetStart), (2, c.flood), (2, c.hp)]

/-- A complete frame: sync, kind byte, length and as many bytes as it states (R179, R180). -/
def isWholeFrame (bytes : List Byte) : Bool :=
  bytes.getD 0 0 == sync && kindCheck (bytes.getD 1 0) && decide ((bytes.getD 2 0).toNat ≤ 48) &&
    decide (bytes.length = 5 + (bytes.getD 2 0).toNat)

/-- The port a request's frame arrives on; absent for every other row. -/
def Instr.requestPort : Instr → Option Port
  | .unknownRequest p _ | .startJob p _ | .endJob p | .pause p | .continueJob p | .setFlood p _
  | .setHp p _ | .discharge p _ _ _ | .dischargeEnd p _ _ | .query p | .commission p
  | .decommission p | .restart p | .writeTrunkConfig p _ | .writeCellConfig p _ _
  | .writeCellConfigSupply p _ | .writeFilterConfig p _ _ | .writeFilterConfigSludge p _
  | .writeTankConfig p _ | .writeBinConfig p _ | .writeSensorConfig p _ | .writeGroup p _ _ _
  | .writeRecipe p _ _ | .writePresets p _ _ | .writeProfile p _ _ | .eraseProfile p _
  | .filterOffline p _ | .filterOnline p _ | .forceFlush p _ | .binRelease p _ | .binRestore p _ _
  | .crusherCleared p | .clearGate p _ | .trunkStop p | .trunkRun p | .clearSupplyFault p _
  | .setMasks p _ _ _ _ | .clearExceptions p _ | .clearPair p _ | .setAlertEnables p _
  | .clearAlerts p _ | .readCell p _ _ | .readLots p _ _ | .readMap p _ _ _ | .readFilter p _
  | .readBalance p _ | .readBins p _ | .readProfile p _ _ _ _ | .readRecipe p _ _ _
  | .readPorts p _ _ | .onBehalf p _ _ => some p
  | _ => none

/-- The code of a request row's frame (section 10.6); absent for every row that is no request of the
code table. -/
def Instr.requestCode : Instr → Option Byte
  | .startJob _ _ => some 0x01
  | .endJob _ => some 0x02
  | .pause _ => some 0x03
  | .continueJob _ => some 0x04
  | .setFlood _ _ => some 0x05
  | .setHp _ _ => some 0x06
  | .discharge _ _ _ _ => some 0x07
  | .dischargeEnd _ _ _ => some 0x08
  | .query _ => some 0x09
  | .commission _ => some 0x20
  | .decommission _ => some 0x21
  | .restart _ => some 0x22
  | .writeTrunkConfig _ _ => some 0x30
  | .writeCellConfig _ _ _ | .writeCellConfigSupply _ _ => some 0x31
  | .writeFilterConfig _ _ _ | .writeFilterConfigSludge _ _ => some 0x32
  | .writeTankConfig _ _ => some 0x33
  | .writeBinConfig _ _ => some 0x34
  | .writeSensorConfig _ _ => some 0x35
  | .writeGroup _ _ _ _ => some 0x36
  | .writeRecipe _ _ _ => some 0x37
  | .writePresets _ _ _ => some 0x38
  | .writeProfile _ _ _ => some 0x39
  | .eraseProfile _ _ => some 0x3A
  | .filterOffline _ _ => some 0x40
  | .filterOnline _ _ => some 0x41
  | .forceFlush _ _ => some 0x42
  | .binRelease _ _ => some 0x48
  | .binRestore _ _ _ => some 0x49
  | .crusherCleared _ => some 0x50
  | .clearGate _ _ => some 0x51
  | .trunkStop _ => some 0x52
  | .trunkRun _ => some 0x53
  | .clearSupplyFault _ _ => some 0x60
  | .setMasks _ _ _ _ _ => some 0x61
  | .clearExceptions _ _ => some 0x62
  | .clearPair _ _ => some 0x63
  | .setAlertEnables _ _ => some 0x68
  | .clearAlerts _ _ => some 0x69
  | .readCell _ _ _ => some 0x70
  | .readLots _ _ _ => some 0x71
  | .readMap _ _ _ _ => some 0x72
  | .readFilter _ _ => some 0x73
  | .readBalance _ _ => some 0x74
  | .readBins _ _ => some 0x75
  | .readProfile _ _ _ _ _ => some 0x76
  | .readRecipe _ _ _ _ => some 0x77
  | .readPorts _ _ _ => some 0x78
  | .onBehalf _ _ _ => some 0x7F
  | _ => none

/-- The operands of a row fit their fields. -/
def Instr.operandsFit : Instr → Bool
  | .sampleSet set => set.readings.toList.all fun x => decide (x < 65536)
  | .frameDropped _ bytes => isWholeFrame bytes
  | .frameSent p => decide (p ≠ .sample)
  | .unknownRequest _ code => !isKnownCode code
  | .startJob _ p => Sys2Proof.fits [(1, p)]
  | .setFlood _ v | .setHp _ v => Sys2Proof.fits [(2, v)]
  | .discharge _ n v f => Sys2Proof.fits [(1, n), (2, v), (1, f)]
  | .dischargeEnd _ p v => Sys2Proof.fits [(1, p), (2, v)]
  | .writeTrunkConfig _ c => c.fits
  | .writeCellConfig _ t c => decide (t ≠ 8) && (Sys2Proof.fits [(1, t)] && c.fits)
  | .writeCellConfigSupply _ c => c.fits
  | .writeFilterConfig _ t c => decide (t ≠ 6) && (Sys2Proof.fits [(1, t)] && c.fits)
  | .writeFilterConfigSludge _ c => c.fits
  | .writeTankConfig _ c => c.fits
  | .writeBinConfig _ c => c.fits
  | .writeSensorConfig _ c => c.fits
  | .writeGroup _ g b c => Sys2Proof.fits [(1, g), (1, b), (1, c)]
  | .writeRecipe _ r c => Sys2Proof.fits [(1, r)] && c.fits
  | .writePresets _ a run => Sys2Proof.fits [(2, a)] && decide (run.length ≤ 45)
  | .writeProfile _ p c => Sys2Proof.fits [(1, p)] && c.fits
  | .eraseProfile _ x | .filterOffline _ x | .filterOnline _ x | .forceFlush _ x | .binRelease _ x
  | .clearGate _ x | .clearSupplyFault _ x | .clearExceptions _ x | .clearPair _ x
  | .readFilter _ x | .readBalance _ x | .readBins _ x => Sys2Proof.fits [(1, x)]
  | .clearAlerts _ x => Sys2Proof.fits [(2, x)]
  | .binRestore _ b f => Sys2Proof.fits [(1, b), (4, f)]
  | .setMasks _ r i o d => Sys2Proof.fits [(1, r), (1, i), (1, o), (1, d)]
  | .setAlertEnables _ e => e.toList.all fun x => decide (x < 256)
  | .readCell _ a k | .readLots _ a k | .readPorts _ a k => Sys2Proof.fits [(1, a), (1, k)]
  | .readMap _ a n k | .readRecipe _ a n k => Sys2Proof.fits [(1, a), (1, n), (1, k)]
  | .readProfile _ p t a k =>
    Sys2Proof.fits [(1, p), (1, t), (2, a), (1, k)] && (decide (t = 3) || decide (a = 0))
  | .onBehalf _ c inner => Sys2Proof.fits [(1, c)] && decide (inner.length ≤ 46)
  | _ => true

/-- A command that can stand in the queue. -/
def Instr.wellFormed (i : Instr) : Bool :=
  decide (i.requestPort ≠ some .sample) && i.operandsFit

end Sys2Proof
end

