-- ==== Sys2Proof/Safety.lean ====
section
/-! DEFINITION. The vocabulary of the statements: what a port owes, what every event may touch, and
the properties of a state that every step keeps. -/

namespace Sys2Proof.Machine

/-! ### What an event leaves alone -/

/-- The state without what every event may bring up to date at its end (`State.finish`): the links,
the alert flags, the output lines. Two states with one `inner` agree in everything else. -/
def State.inner (s : State) : State :=
  ((s.withLinks .powerOn).withPlant ⟨s.plant.enables, Vector.replicate 15 false⟩).withOutputs .powerOn

/-- The state without what the examination, the passes, the evaluations and the selection at the end
of an event may change (`Event.settle`): flights, the halt reasons ROUTING and BIN, the routing unit,
lots, gates, commitments, the course of a flush, the balance record with its exceptions and HOLD,
valves, the shed operation, notices. Two states with one `steady` agree in everything else. -/
def State.steady (s : State) : State where
  part := s.part
  trunk := { s.trunk with
    map := Vector.replicate 256 .untracked
    halt := { s.trunk.halt with routing := false, bin := false } }
  intake := .powerOn
  outlets := s.outlets.map fun x => { Outlet.powerOn with closeTime := x.closeTime }
  crusher := s.crusher
  routing := .powerOn
  delivery := s.delivery
  bins := s.bins.map fun b => { b with committed := 0 }
  samples := s.samples
  filter :=
    { units := s.filter.units.map fun u =>
        { u with state := .offline, forced := false, timer := .stopped }
      slot := none
      begun := Vector.replicate 32 false
      lastCheck := none
      sludge := s.filter.sludge }
  balance :=
    { record := .zero
      evalCount := 0
      sticky := .none
      masked := s.balance.masked
      hold := false
      markers := Vector.replicate 8 false
      config := s.balance.config }
  grants := { s.grants with
    valves := Vector.replicate 8 ⟨.zero, .zero⟩
    shed := ⟨.idle, 0, none, .stopped⟩
    stamp := 0
    lowlow := false }
  recipes := s.recipes
  profiles := s.profiles
  cells := s.cells
  links := { s.links with notices := Vector.replicate 8 [] }
  plant := s.plant
  inputs := s.inputs
  outputs := s.outputs
  pending := s.pending
  freeCount := s.freeCount

/-- The replies a port has still to finish sending, oldest first: the one being sent, then the
queue (R183, R188). -/
def State.owedReplies (s : State) (p : Fin 9) : List Reply :=
  (match s.links.tx[p].sending with
    | some (.reply r) => [r]
    | _ => []) ++ s.links.tx[p].replies

/-- The notice a cell port is sending, if it is sending one (R188). -/
def State.sentNotice (s : State) (c : Fin 8) : List Notice :=
  match s.links.tx[cellTx c].sending with
  | some (.notice n) => [n]
  | _ => []

/-- The notices a cell port has still to finish sending: the one being sent, then the queue
(R187, R188). -/
def State.owedNotices (s : State) (c : Fin 8) : List Notice := s.sentNotice c ++ s.links.notices[c]

/-- One more reply is owed on a port, at the tail, and every other port owes what it owed (R183). -/
def Answered (p : Fin 9) (r : Reply) (s t : State) : Prop :=
  t.owedReplies p = s.owedReplies p ++ [r] ∧ ∀ q, q ≠ p → t.owedReplies q = s.owedReplies q

/-- The receivers after a well-formed frame on a port: that one in HUNT with its timer stopped and
its well-formed count increased, every other as it was (R180, R181). That a request row and SAMPLE_SET
stand for a whole frame that completes on its port, the bytes of a frame in progress there discarded,
is the model's choice (log 5); every statement that says `Counted` rests on it. -/
def Counted (p : Port) (s t : State) : Prop :=
  t.links.rx = change s.links.rx (rxIndex p) fun r =>
    { r with state := .hunt, gap := .stopped, wellFormed := (r.wellFormed + 1) % 65536 }

/-- Whether a port's reply queue has room for another reply (R181). -/
def State.roomAt (s : State) (p : Fin 9) : Prop := s.links.tx[p].replies.length < 4

/-- The links apart from what a command's own frame does to them: read image and overrun flags as they
were, no notice more or less owed. -/
def Quiet (s t : State) : Prop :=
  t.links.image = s.links.image ∧ (∀ p : Fin 9, t.links.tx[p].overrun = s.links.tx[p].overrun) ∧
    ∀ c, t.owedNotices c = s.owedNotices c

/-- `Quiet`, but notices may have been posted. -/
def Noticed (s t : State) : Prop :=
  t.links.image = s.links.image ∧ ∀ p : Fin 9, t.links.tx[p].overrun = s.links.tx[p].overrun

/-- No frame has been received and no reply placed. -/
def Unasked (s t : State) : Prop :=
  t.links.rx = s.links.rx ∧ ∀ p, t.owedReplies p = s.owedReplies p

/-- A station request is taken and answered: the next state, the reply on the station port, the
receiver. -/
def StationAnswers (i : Instr) (code : Byte) (v : Verdict) (body : List Byte) (s t : State) : Prop :=
  exec i s = .next t ∧ Answered stationTx ⟨code, v, body⟩ s t ∧ Counted .station s t

/-- Bytes 0 to 16 of a cell's status block (R184): cell state, active profile, stack depth, the two
commanded grants, the two pending values, the open lot with its id and state. -/
def State.blockBytes (s : State) (c : Fin 8) : List Byte :=
  u8 s.cells[c].state.code ++
  (match s.cells[c].active with
    | none => [0, 0]
    | some p => [1, BitVec.ofNat 8 p.1]) ++
  u8 s.cells[c].stack.length ++ u16 (s.valve c .flood).commanded ++ u16 (s.valve c .hp).commanded ++
  (match (s.valve c .flood).pending with
    | none => [0, 0, 0]
    | some p => 1 :: u16 p.value) ++
  (match (s.valve c .hp).pending with
    | none => [0, 0, 0]
    | some p => 1 :: u16 p.value) ++
  match s.openLot (.cell c) with
  | none => [0, 0, 0]
  | some (id, l) => [1, BitVec.ofNat 8 id.1, BitVec.ofNat 8 l.state.code]

/-- Byte 17 of a cell's status block (R184): bit 0 exception pending, bit 1 link restored, bit 2 gate
fault. -/
def indicatorByte (pending restored : Bool) (gate : GateState) : Byte :=
  BitVec.ofNat 8 ((if pending then 1 else 0) + (if restored then 2 else 0) +
    (if gate = .fault then 4 else 0))

/-- A cell request is taken and answered on its own port with the status block, which shows the cell
as the request leaves it (R184), the link-restored indicator as the request's own frame has it (R165),
and the exception-pending marker, which an evaluation of the request's own may have set. -/
def CellAnswers (c : Fin 8) (i : Instr) (code : Byte) (v : Verdict) (s t : State) : Prop :=
  exec i s = .next t ∧ Counted (.cell c) s t ∧
    ∃ pending : Bool, (s.balance.markers[c] = true → pending = true) ∧
      Answered (cellTx c) ⟨code, v, t.blockBytes c ++
        [indicatorByte pending (s.cells[c].restored || s.cells[c].link == .lost)
          t.outlets[cellTx c].gate]⟩ s t

/-- What a cell's own frame and the status block that answers it do to the state: the link is LINKED
and its timer restarted (R165), the link-restored and exception-pending markers are clear (R184). -/
def State.touched (s : State) (c : Fin 8) : State :=
  (s.withBalance { s.balance with markers := put s.balance.markers c false }).updateCell c fun x =>
    { x with link := .linked, linkTimer := .running x.config.linkTimeout, restored := false }

/-- A station request is answered, and its whole effect is `u`: links, alert flags and output lines
aside, the next state is `u`. -/
def StationDoes (i : Instr) (code : Byte) (v : Verdict) (body : List Byte) (s u : State) : Prop :=
  ∃ t, StationAnswers i code v body s t ∧ t.inner = u.inner ∧ Quiet s t

/-- A station request is answered with an empty body, and its effect is `u` followed by what ends an
event (`State.steady`); `after` holds of the next state. -/
def StationSettles (i : Instr) (code : Byte) (v : Verdict) (s u : State) (after : State → Prop) : Prop :=
  ∃ t, StationAnswers i code v [] s t ∧ t.inner.steady = u.inner.steady ∧ Noticed s t ∧ after t

/-- A cell request is answered on its own port, and its whole effect is `u`. -/
def CellDoes (c : Fin 8) (i : Instr) (code : Byte) (v : Verdict) (s u : State) : Prop :=
  ∃ t, CellAnswers c i code v s t ∧ t.inner = (u.touched c).inner ∧ Quiet s t

/-- A cell request is answered on its own port, and its effect is `u` followed by what ends an event;
`after` holds of the next state. -/
def CellSettles (c : Fin 8) (i : Instr) (code : Byte) (v : Verdict) (s u : State)
    (after : State → Prop) : Prop :=
  ∃ t, CellAnswers c i code v s t ∧ t.inner.steady = (u.touched c).inner.steady ∧ Noticed s t ∧
    after t

/-- A command that is no frame: its whole effect is `u`. -/
def Does (i : Instr) (s u : State) : Prop :=
  ∃ t, exec i s = .next t ∧ t.inner = u.inner ∧ Unasked s t ∧ Quiet s t

/-- A command that is no frame: its effect is `u` followed by what ends an event; `after` holds of the
next state. -/
def Settles (i : Instr) (s u : State) (after : State → Prop) : Prop :=
  ∃ t, exec i s = .next t ∧ t.inner.steady = u.inner.steady ∧ Unasked s t ∧ Noticed s t ∧ after t

/-- A command that reaches one receiver alone: `f` is what becomes of it. -/
def Receives (i : Instr) (p : Port) (f : Receiver → Receiver) (s : State) : Prop :=
  ∃ t, exec i s = .next t ∧ t.inner = s.inner ∧ t.links.rx = change s.links.rx (rxIndex p) f ∧
    (∀ q, t.owedReplies q = s.owedReplies q) ∧ Quiet s t

/-- Both valves of a cell are commanded to 0, with no request pending (R129). -/
def State.atRest (s : State) (c : Fin 8) : Prop :=
  ∀ k : ValveKind, (s.valve c k).commanded = 0 ∧ (s.valve c k).pending = none

/-- SET_FLOOD or SET_HP on a port. -/
def coolantRow (k : ValveKind) (p : Port) (flow : Nat) : Instr :=
  match k with
  | .flood => .setFlood p flow
  | .hp => .setHp p flow

/-- The code of SET_FLOOD or SET_HP. -/
def coolantCode : ValveKind → Byte
  | .flood => 0x05
  | .hp => 0x06

/-- A valve of a cell from which the coolant is withdrawn: commanded to 0 as a decrease, its request
cleared, the counted grant kept until the settle timer expires (R124, R129). -/
def State.withdrawnValve (s : State) (c : Fin 8) (k : ValveKind) : Valve :=
  { s.valve c k with
    commanded := 0
    pending := none
    timer := if (s.valve c k).commanded = 0 then (s.valve c k).timer
      else .running s.grants.supply.settleTime }

/-- A pair's record after a set (R79, R80, R81), from its probes as conditioned, its tolerance and its
auto-clear setting; `conservative` is the smaller or the larger of the two. -/
structure PairAfter (a b : Channel) (conservative tolerance : Nat) (auto : Bool) (old new : Pair) :
    Prop where
  /-- Both in range, agreeing, in AGREE: the mean. -/
  agree : a.range = .inRange → b.range = .inRange → old.state = .agree →
    max a.value b.value - min a.value b.value ≤ tolerance →
      new = ⟨.agree, (a.value + b.value) / 2, false, .both, 0, old.seen,
        max old.maxDiff (max a.value b.value - min a.value b.value)⟩
  /-- Both in range, disagreeing: the conservative value, DISAGREE. -/
  disagree : a.range = .inRange → b.range = .inRange →
    tolerance < max a.value b.value - min a.value b.value →
      new = ⟨.disagree, conservative, false, .both, 0, old.seen || old.state == .agree,
        max old.maxDiff (max a.value b.value - min a.value b.value)⟩
  /-- Both in range, agreeing, in DISAGREE, short of the clearing set: the conservative value. -/
  recovering : a.range = .inRange → b.range = .inRange → old.state = .disagree →
    max a.value b.value - min a.value b.value ≤ tolerance → (auto = false ∨ old.count < 7) →
      new = ⟨.disagree, conservative, false, .both, min 8 (old.count + 1), old.seen,
        max old.maxDiff (max a.value b.value - min a.value b.value)⟩
  /-- Both in range, agreeing, in DISAGREE, at the set that clears: the mean. -/
  cleared : a.range = .inRange → b.range = .inRange → old.state = .disagree →
    max a.value b.value - min a.value b.value ≤ tolerance → auto = true → 7 ≤ old.count →
      new = ⟨.agree, (a.value + b.value) / 2, false, .both, 0, old.seen,
        max old.maxDiff (max a.value b.value - min a.value b.value)⟩
  /-- Probe A alone. -/
  singleA : a.range = .inRange → b.range ≠ .inRange →
    new = { old with used := a.value, held := false, mode := .singleA, count := 0 }
  /-- Probe B alone. -/
  singleB : a.range ≠ .inRange → b.range = .inRange →
    new = { old with used := b.value, held := false, mode := .singleB, count := 0 }
  /-- Neither probe. -/
  neither : a.range ≠ .inRange → b.range ≠ .inRange →
    new = { old with held := true, mode := .none, count := 0 }

/-- The figures of a balance record against what it is computed from (R110 to R116). -/
structure BalanceFigures (s : State) : Prop where
  /-- Stage 1 (R110): each unit's availability. -/
  avail : ∀ u : Fin 6, s.balance.record.avail[u] =
    if s.filter.units[u].state = .offline ∨ s.filter.units[u].state = .flushing ∨
        s.filter.units[u].state = .fault then 0
    else if s.filter.units[u].config.dpMax ≤ s.filter.units[u].config.dpClean then 0
    else if (s.unitDp u).value ≤ s.filter.units[u].config.dpClean then
      s.filter.units[u].config.ratedFlow
    else if s.filter.units[u].config.dpMax ≤ (s.unitDp u).value then 0
    else s.filter.units[u].config.ratedFlow * (s.filter.units[u].config.dpMax - (s.unitDp u).value) /
      (s.filter.units[u].config.dpMax - s.filter.units[u].config.dpClean)
  /-- Stage 2 (R111): the primary sum, saturated. -/
  primary : s.balance.record.primary = min 65535 (s.balance.record.avail[(0 : Fin 6)] +
    s.balance.record.avail[(1 : Fin 6)] + s.balance.record.avail[(2 : Fin 6)] +
    s.balance.record.avail[(3 : Fin 6)])
  /-- Stage 2 (R111): the polishing sum, saturated. -/
  polish : s.balance.record.polish =
    min 65535 (s.balance.record.avail[(4 : Fin 6)] + s.balance.record.avail[(5 : Fin 6)])
  /-- Stage 3 (R112): the clean volume. -/
  vClean : s.balance.record.vClean = s.samples.clean.used * s.balance.config.cleanArea / 100
  /-- Stage 3 (R112): the dirty volume. -/
  vDirty : s.balance.record.vDirty = s.samples.dirty.used * s.balance.config.dirtyArea / 100
  /-- Stage 4 (R113): the clean part. -/
  cleanPart : s.balance.record.cleanPart =
    Int.tdiv (((s.balance.record.vClean : Int) - s.balance.config.vLow) * 600) s.balance.config.horizon
  /-- Stage 4 (R113): the dirty part. -/
  dirtyPart : s.balance.record.dirtyPart =
    if s.balance.config.vDirtyHigh < s.balance.record.vDirty then
      -Int.tdiv (((s.balance.record.vDirty : Int) - s.balance.config.vDirtyHigh) * 600)
        s.balance.config.horizon
    else 0
  /-- Stage 4 (R113): the credit, clamped. -/
  credit : s.balance.record.credit =
    max (-65535) (min 65535 (s.balance.record.cleanPart + s.balance.record.dirtyPart))
  /-- Stage 5 (R113): the total supply, clamped. -/
  total : (s.balance.record.total : Int) =
    max 0 (min 65535 ((s.balance.record.primary : Int) + s.balance.record.credit))
  /-- Stage 6 (R115): the sums of the counted grants. -/
  sums : s.balance.record.sumFlood =
      ((List.finRange 8).map fun c => (s.valve c .flood).counted).sum ∧
    s.balance.record.sumHp = ((List.finRange 8).map fun c => (s.valve c .hp).counted).sum
  /-- Stage 7 (R115): the headrooms. -/
  headrooms : s.balance.record.hTotal = (s.balance.record.total : Int) - s.balance.record.sumFlood -
      s.balance.record.sumHp ∧
    s.balance.record.hPolish = (s.balance.record.polish : Int) - s.balance.record.sumHp
  /-- Stage 8 (R116): DEFICIT. -/
  deficit : s.balance.record.deficit = true ↔
    s.balance.record.hTotal < 0 ∨ s.balance.record.hPolish < 0
  /-- Stage 8 (R116): POLISH_BOUND. -/
  polishBound : s.balance.record.polishBound = true ↔
    s.balance.record.hPolish < s.balance.record.hTotal
  /-- Stage 8 (R116): HELD_INPUT. -/
  heldInput : s.balance.record.heldInput = true ↔
    (s.samples.clean.held = true ∨ s.samples.dirty.held = true ∨
      ∃ u : Fin 6, (s.filter.units[u].state = .online ∨ s.filter.units[u].state = .flushWait ∨
        s.filter.units[u].state = .flushReady) ∧
        s.filter.units[u].config.dpClean < s.filter.units[u].config.dpMax ∧ (s.unitDp u).held = true)

/-! ### The grant arbiter's handling of a result (R131 to R141) -/

/-- No selection can follow an evaluation: the flush slot is held, or no unit waits (R93). -/
def State.bankQuiet (s : State) : Prop :=
  s.filter.slot ≠ none ∨ ∀ u : Fin 6, s.filter.units[u].state ≠ .flushWait

/-- The sum of the eight counted grants of a kind (R115). -/
def State.countedSum (s : State) (k : ValveKind) : Nat :=
  ((List.finRange 8).map fun c => (s.valve c k).counted).sum

/-- H_total of the result that finds the counted grants of `s`, by the supply in the record of `t`,
the state after its handling (R115). -/
def resultTotal (s t : State) : Int :=
  (t.balance.record.total : Int) - s.countedSum .flood - s.countedSum .hp

/-- H_polish of that result (R115). -/
def resultPolish (s t : State) : Int := (t.balance.record.polish : Int) - s.countedSum .hp

/-- DEFICIT of that result (R116). -/
def resultDeficit (s t : State) : Prop := resultTotal s t < 0 ∨ resultPolish s t < 0

/-- Whether the low-low handling withdraws a valve: the state becomes set, and the valve is an HP
valve with a grant (R141). -/
def withdrawnLowlow (s t : State) (c : Fin 8) (k : ValveKind) : Prop :=
  s.grants.lowlow = false ∧ t.grants.lowlow = true ∧ k = .hp ∧ 0 < (s.valve c .hp).commanded

/-- The commanded grants a shed step chooses among: those of `s` after the low-low handling. -/
def asked (s t : State) (c : Fin 8) (k : ValveKind) : Nat :=
  if s.grants.lowlow = false ∧ t.grants.lowlow = true ∧ k = .hp then 0 else (s.valve c k).commanded

/-- The request a valve is left with when its grant is taken: the grant before with origin RESTORE,
or an existing greater value with its origin, in either case with a new stamp (R137). -/
def RestoreOf (v : Valve) (stamp : Nat) (p : PendingRequest) : Prop :=
  min stamp 4294967295 ≤ p.stamp ∧
  (v.pending = none → p.value = v.commanded ∧ p.origin = .restore) ∧
  (∀ q, v.pending = some q → q.value ≤ v.commanded → p.value = v.commanded ∧ p.origin = .restore) ∧
  ∀ q, v.pending = some q → v.commanded < q.value → p.value = q.value ∧ p.origin = q.origin

/-- Lower priority, then higher cell number (R136). -/
def State.shedsFirst (s : State) (c d : Fin 8) : Prop :=
  s.priority c < s.priority d ∨ (s.priority c = s.priority d ∧ d.1 ≤ c.1)

/-- The victim of a shed step, by the commanded grants `g` and the result's H_polish (R136). -/
structure IsVictim (s : State) (g : Fin 8 → ValveKind → Nat) (hPolish : Int) (x : ShedStep) :
    Prop where
  before : x.before = g x.cell x.kind
  /-- Phase a: the largest excess of a flood grant over its floor, reduced to the floor. -/
  phaseA : x.phase = .a → 0 ≤ hPolish ∧ x.kind = .flood ∧
    x.value = s.cells[x.cell].config.floor ∧ s.cells[x.cell].config.floor < g x.cell .flood ∧
    ∀ d : Fin 8,
      g d .flood - s.cells[d].config.floor < g x.cell .flood - s.cells[x.cell].config.floor ∨
      (g d .flood - s.cells[d].config.floor = g x.cell .flood - s.cells[x.cell].config.floor ∧
        s.shedsFirst x.cell d)
  /-- Phase b: an HP grant, with no flood grant above its floor unless H_polish is below 0. -/
  phaseB : x.phase = .b → x.kind = .hp ∧ x.value = 0 ∧ 0 < g x.cell .hp ∧
    (0 ≤ hPolish → ∀ d : Fin 8, g d .flood ≤ s.cells[d].config.floor) ∧
    ∀ d : Fin 8, 0 < g d .hp → s.shedsFirst x.cell d
  /-- Phase c: a flood grant, with no flood grant above its floor and no HP grant left. -/
  phaseC : x.phase = .c → 0 ≤ hPolish ∧ x.kind = .flood ∧ x.value = 0 ∧ 0 < g x.cell .flood ∧
    (∀ d : Fin 8, g d .flood ≤ s.cells[d].config.floor ∧ g d .hp = 0) ∧
    ∀ d : Fin 8, 0 < g d .flood → s.shedsFirst x.cell d

/-- Whether the shed operation acts on the result: not while a step settles, but for the expiry of
its step timer (R131, R138). -/
def shedActs (s : State) (stepExpiry : Bool) : Prop :=
  s.grants.shed.state ≠ .settling ∨ stepExpiry = true

/-- Whether the handling takes a shed step on a valve. -/
def steppedOn (s t : State) (stepExpiry : Bool) (c : Fin 8) (k : ValveKind) : Prop :=
  shedActs s stepExpiry ∧ resultDeficit s t ∧
    ∃ x : ShedStep, t.grants.shed.current = some x ∧ x.cell = c ∧ x.kind = k

/-- Whether a pending pass may run in the handling (R131, part 3). -/
def passMayRun (s t : State) : Prop :=
  t.balance.hold = false ∧ t.grants.shed.state = .idle ∧ ¬resultDeficit s t

/-- What an HP request of a value asks of the headrooms and the cell beyond H_polish (R133). -/
def State.hpMayRise (s : State) (c : Fin 8) (hTotal rise : Int) : Prop :=
  s.cells[c].link = .linked ∧ s.grants.hpFault = false ∧ s.grants.lowlow = false ∧
    (s.balance.config.margin : Int) ≤ hTotal - rise

/-- The order in which a pending pass visits two requests (R132). -/
def State.servedBefore (s : State) (c : Fin 8) (k : ValveKind) (p : PendingRequest) (c' : Fin 8)
    (k' : ValveKind) (p' : PendingRequest) : Prop :=
  s.priority c' < s.priority c ∨ (s.priority c' = s.priority c ∧ (p.stamp < p'.stamp ∨
    (p.stamp = p'.stamp ∧ ((k = .flood ∧ k' = .hp) ∨ (k = k' ∧ c.1 ≤ c'.1)))))

/-- The low-low and shed parts of the handling of one evaluation's result: `s` is the state the
evaluation finds, `t` the state after the handling (R131, R135 to R139, R141). -/
structure ShedHandled (s t : State) (stepExpiry : Bool) : Prop where
  /-- R141, the state's table. -/
  lowlow : t.grants.lowlow =
    if s.grants.lowlow then decide (t.balance.record.vClean < s.balance.config.vLow)
    else decide (t.balance.record.vClean < s.balance.config.vLowLow)
  /-- R141, the withdrawal, with R137's request. -/
  withdrawn : ∀ c k, withdrawnLowlow s t c k → (t.valve c .hp).commanded = 0 ∧
    (t.valve c .hp).timer = .running s.grants.supply.settleTime ∧
    ∃ p, (t.valve c .hp).pending = some p ∧ RestoreOf (s.valve c .hp) s.grants.stamp p
  /-- R131, R138: a result that is not the step's own leaves a settling operation alone. -/
  kept : ¬shedActs s stepExpiry → t.grants.shed = s.grants.shed
  /-- R138, R139: without DEFICIT the operation becomes, or stays, IDLE. -/
  ended : shedActs s stepExpiry → ¬resultDeficit s t → t.grants.shed =
    if s.grants.shed.state = .idle then s.grants.shed
    else { s.grants.shed with state := .idle, current := none }
  /-- R135, R138, R139: with DEFICIT and no victim the operation is EXHAUSTED. -/
  exhausted : shedActs s stepExpiry → resultDeficit s t → (∀ c, asked s t c .hp = 0) →
    (0 ≤ resultPolish s t → ∀ c, asked s t c .flood = 0) → t.grants.shed = { s.grants.shed with
      state := .exhausted
      current := none
      stepCount := if s.grants.shed.state = .idle then 0 else s.grants.shed.stepCount }
  /-- R135 to R138: with DEFICIT and a candidate one step is taken. -/
  stepped : shedActs s stepExpiry → resultDeficit s t →
    ((∃ c, 0 < asked s t c .hp) ∨ (0 ≤ resultPolish s t ∧ ∃ c, 0 < asked s t c .flood)) →
    ∃ x p, IsVictim s (asked s t) (resultPolish s t) x ∧ t.grants.shed =
        ⟨.settling, min 65535 ((if s.grants.shed.state = .idle then 0
          else s.grants.shed.stepCount) + 1), some x, .running s.grants.supply.settleTime⟩ ∧
      t.valve x.cell x.kind =
        ⟨x.value, (s.valve x.cell x.kind).counted, some p, .stopped⟩ ∧
      RestoreOf (s.valve x.cell x.kind) s.grants.stamp p
  /-- No other commanded grant changes where no pass may run. -/
  others : ¬passMayRun s t → ∀ c k, ¬steppedOn s t stepExpiry c k →
    (t.valve c k).commanded = asked s t c k

/-- The pending pass of the handling, the bounds after it and the notices (R130 to R134, R146). -/
structure PassHandled (s t : State) (stepExpiry : Bool) : Prop where
  /-- R124: an increase counts at once, a decrease not yet. -/
  counted : ∀ c k, (t.valve c k).counted = max (s.valve c k).counted (t.valve c k).commanded
  /-- A request that is not replaced keeps its value, stamp and origin, or leaves served in full. -/
  waiting : ∀ c k p, (s.valve c k).pending = some p → ¬withdrawnLowlow s t c k →
    ¬steppedOn s t stepExpiry c k →
      ((t.valve c k).pending = none → passMayRun s t ∧ (t.valve c k).commanded = p.value) ∧
      ∀ q, (t.valve c k).pending = some q → q.value = p.value ∧ q.stamp = p.stamp ∧
        q.origin = p.origin
  /-- No request comes out of nothing, and no grant rises without one. -/
  fresh : ∀ c k, (s.valve c k).pending = none → ¬withdrawnLowlow s t c k →
    ¬steppedOn s t stepExpiry c k →
      (t.valve c k).pending = none ∧ (t.valve c k).commanded = asked s t c k
  /-- R132, R133: the pass lowers no grant and raises none above the value wanted. -/
  raised : passMayRun s t → ∀ c k p, (s.valve c k).pending = some p →
    (s.valve c k).commanded < p.value → ¬withdrawnLowlow s t c k →
      asked s t c k ≤ (t.valve c k).commanded ∧ (t.valve c k).commanded ≤ p.value
  /-- R132, R133: an increase that takes headroom leaves the margin, and H_polish at 0 or above. -/
  margin : passMayRun s t → ∀ c k, (s.valve c k).counted < (t.valve c k).counted →
    (s.balance.config.margin : Int) ≤ t.balance.record.hTotal ∧
      (k = .hp → 0 ≤ t.balance.record.hPolish)
  /-- R132: a flood request that stays pending has taken what the headroom gave. -/
  floodLeft : passMayRun s t → ∀ c q, (t.valve c .flood).pending = some q →
    (t.valve c .flood).commanded < q.value →
      ((t.valve c .flood).counted : Int) + t.balance.record.hTotal - s.balance.config.margin ≤
        (t.valve c .flood).commanded
  /-- R133: an HP request is served in full or not at all, and stays pending for a reason. -/
  hpLeft : passMayRun s t → ∀ c q, (t.valve c .hp).pending = some q →
    (t.valve c .hp).commanded = asked s t c .hp ∧
    (q.bound = .total → ¬t.hpMayRise c t.balance.record.hTotal
      ((q.value - (t.valve c .hp).counted : Nat) : Int)) ∧
    (q.bound = .polish →
      t.balance.record.hPolish - ((q.value - (t.valve c .hp).counted : Nat) : Int) < 0)
  /-- R132: the flood request visited first is served from the result's own H_total. -/
  firstFlood : passMayRun s t → ∀ c p, (s.valve c .flood).pending = some p →
    (∀ c' k' p', (s.valve c' k').pending = some p' → s.servedBefore c .flood p c' k' p') →
      ∀ g : Int, g = min (p.value : Int)
          ((s.valve c .flood).counted + resultTotal s t - s.balance.config.margin) →
        (((s.valve c .flood).commanded : Int) < g → ((t.valve c .flood).commanded : Int) = g ∧
          ((t.valve c .flood).pending = none ↔ g = p.value)) ∧
        (g ≤ (s.valve c .flood).commanded →
          (t.valve c .flood).commanded = (s.valve c .flood).commanded)
  /-- R133: the HP request visited first is served or not by the result's own headrooms. -/
  firstHp : passMayRun s t → ∀ c p, (s.valve c .hp).pending = some p → ¬withdrawnLowlow s t c .hp →
    (∀ c' k' p', (s.valve c' k').pending = some p' → s.servedBefore c .hp p c' k' p') →
      ∀ rise : Int, rise = ((p.value - (s.valve c .hp).counted : Nat) : Int) →
        (t.hpMayRise c (resultTotal s t) rise ∧ 0 ≤ resultPolish s t - rise →
          (t.valve c .hp).commanded = p.value ∧ (t.valve c .hp).pending = none) ∧
        (¬(t.hpMayRise c (resultTotal s t) rise ∧ 0 ≤ resultPolish s t - rise) →
          ∃ q, (t.valve c .hp).pending = some q ∧
            (q.bound = .polish ↔ t.hpMayRise c (resultTotal s t) rise))
  /-- R130: the bound of every request left pending. -/
  bounds : ∀ c k q, (t.valve c k).pending = some q →
    (t.balance.hold = true → q.bound = .hold) ∧
    (t.balance.hold = false → t.grants.shed.state ≠ .idle → q.bound = .shed) ∧
    (t.balance.hold = false → t.grants.shed.state = .idle →
      (k = .flood → q.bound = .total) ∧
      (k = .hp → t.grants.lowlow = true → q.bound = .lowlow) ∧
      (k = .hp → t.grants.lowlow = false → q.bound = .total ∨ q.bound = .polish))
  /-- R146: a cell whose commanded grants changed is owed a GRANT notice that shows them, with the
  reason of the last change. -/
  notices : ∀ c, (∃ k, (t.valve c k).commanded ≠ (s.valve c k).commanded) →
    ∃ r, Notice.grant (t.valve c .flood).commanded (t.valve c .hp).commanded r ∈ t.owedNotices c ∧
      (∀ k x, steppedOn s t stepExpiry c k → t.grants.shed.current = some x →
        r = if x.phase = .c then .floodLost else .shed) ∧
      ((∀ k, ¬steppedOn s t stepExpiry c k) →
        (∀ p, (s.valve c .hp).pending = some p → (t.valve c .hp).commanded ≠ asked s t c .hp →
          r = if p.origin = .request then .granted else .restored) ∧
        (∀ p, (s.valve c .flood).pending = some p → (t.valve c .hp).commanded = asked s t c .hp →
          (t.valve c .flood).commanded ≠ asked s t c .flood →
            r = if p.origin = .request then .granted else .restored) ∧
        ((t.valve c .hp).commanded = asked s t c .hp →
          (t.valve c .flood).commanded = asked s t c .flood → r = .lowlow))

/-- The exceptions an evaluation raises, read from the figures it leaves (R117). -/
structure RaisedBy (s : State) (e : Exceptions) : Prop where
  range : e.range = s.balance.record.heldInput
  invalid : e.invalid = true ↔ ∃ u : Fin 6, (s.filter.units[u].state = .online ∨
    s.filter.units[u].state = .flushWait ∨ s.filter.units[u].state = .flushReady) ∧
    s.filter.units[u].config.dpMax ≤ s.filter.units[u].config.dpClean
  overflow : e.overflow = true ↔
    65535 < s.balance.record.avail[(0 : Fin 6)] + s.balance.record.avail[(1 : Fin 6)] +
      s.balance.record.avail[(2 : Fin 6)] + s.balance.record.avail[(3 : Fin 6)] ∨
    65535 < s.balance.record.avail[(4 : Fin 6)] + s.balance.record.avail[(5 : Fin 6)] ∨
    s.balance.record.cleanPart + s.balance.record.dirtyPart < -65535 ∨
    65535 < s.balance.record.cleanPart + s.balance.record.dirtyPart ∨
    65535 < (s.balance.record.primary : Int) + s.balance.record.credit
  depleted : e.depleted = true ↔ (s.balance.record.primary : Int) + s.balance.record.credit < 0

/-! ### The demands of a job change (R129) -/

/-- The withdrawal of a cell's coolant, nothing asked for after it (R129). -/
structure Withdrawn (s t : State) (c : Fin 8) : Prop where
  /-- Both valves at 0, no request pending. -/
  valves : ∀ k, t.valve c k = s.withdrawnValve c k
  /-- The GRANT notice, where a commanded grant changed. -/
  notice : (∃ k, 0 < (s.valve c k).commanded) → Notice.grant 0 0 .requested ∈ t.owedNotices c

/-- The two demands of a cell, by valve. -/
def demandOf (flood hp : Nat) : ValveKind → Nat
  | .flood => flood
  | .hp => hp

/-- Whether the demand of a valve is entered as a pending request: it is above the commanded grant of
the valve as the request of the demands finds it, and for HP the supply fault is clear (R129). The
cell's own frame has made its link LINKED (R165). -/
def demandEntered (s : State) (base : ValveKind → Valve) (demand : ValveKind → Nat) (k : ValveKind) :
    Prop :=
  (base k).commanded < demand k ∧ (k = .hp → s.grants.hpFault = false)

/-- Whether an entered demand is wholly waiting, with its bound (R129). -/
def demandWaits (s t : State) (c : Fin 8) (base : ValveKind → Valve) (demand : ValveKind → Nat)
    (k : ValveKind) (b : Bound) : Prop :=
  demandEntered s base demand k ∧ (t.valve c k).commanded ≤ (base k).commanded ∧
    ∃ p, (t.valve c k).pending = some p ∧ p.bound = b

/-- The request of a cell's demands at a job change, from `s` to `t`; `base` is the two valves as the
request finds them, `v` the reply's status (R129, R146, R169, R172, R174). That the status is read
after the first handling of the result is log 22: the clauses on it suppose that no selection
follows. -/
structure DemandsAsked (s t : State) (c : Fin 8) (base : ValveKind → Valve) (demand : ValveKind → Nat)
    (v : Verdict) : Prop where
  /-- An entered demand is granted in full, or its value stays pending. -/
  entered : ∀ k, demandEntered s base demand k →
    ((t.valve c k).commanded = demand k ∧ (t.valve c k).pending = none) ∨
    ((t.valve c k).commanded < demand k ∧
      ∃ p, (t.valve c k).pending = some p ∧ p.value = demand k)
  /-- A valve with no demand entered keeps its grant, unless the handling takes it. -/
  left : ∀ k, ¬demandEntered s base demand k → (base k).pending = none →
    ((t.valve c k).commanded = (base k).commanded ∧ (t.valve c k).pending = none) ∨
    ((t.valve c k).commanded < (base k).commanded ∧ ∃ p, (t.valve c k).pending = some p ∧
      p.value = (base k).commanded ∧ p.origin = .restore)
  /-- R124: an increase counts at once. -/
  counted : s.bankQuiet → ∀ k, (base k).commanded ≤ (base k).counted →
    (t.valve c k).counted = max (base k).counted (t.valve c k).commanded
  /-- An entered demand left pending has origin REQUEST; the two of one request have one stamp. -/
  origin : s.bankQuiet → ∀ k p, demandEntered s base demand k → (t.valve c k).pending = some p →
    p.origin = .request
  /-- The two demands of one request have one stamp, where no shed step or low-low withdrawal has
  given one of them a new one. -/
  stamp : s.bankQuiet → ∀ p q, (∀ k, demandEntered s base demand k ∧ (base k).commanded = 0) →
    (∀ x, t.grants.shed.current = some x → x.cell ≠ c) →
    (t.valve c .flood).pending = some p → (t.valve c .hp).pending = some q → p.stamp = q.stamp
  /-- The status WAITING, with the bound of the first wholly waiting request, flood before HP. -/
  waiting : s.bankQuiet → ∀ b, v = .waiting b ↔ demandWaits s t c base demand .flood b ∨
    ((∀ x, ¬demandWaits s t c base demand .flood x) ∧ demandWaits s t c base demand .hp b)
  /-- The status REDUCED: no request wholly waiting, flood granted in part. -/
  reduced : s.bankQuiet → (v = .reduced ↔ (∀ k x, ¬demandWaits s t c base demand k x) ∧
    demandEntered s base demand .flood ∧ (base .flood).commanded < (t.valve c .flood).commanded ∧
    (t.valve c .flood).commanded < demand .flood)
  /-- The GRANT notice, where a commanded grant changed, by a withdrawal before it too. -/
  notice : (∃ k, (s.valve c k).commanded ≠ (base k).commanded ∨
      (t.valve c k).commanded ≠ (base k).commanded) →
    ∃ r, Notice.grant (t.valve c .flood).commanded (t.valve c .hp).commanded r ∈ t.owedNotices c ∧
      (s.bankQuiet → (∀ k, (t.valve c k).commanded = (base k).commanded) → r = .requested) ∧
      (s.bankQuiet → (∀ k, (base k).pending = none) →
        (∃ k, (base k).commanded < (t.valve c k).commanded) → r = .granted)

/-! ### Exceptions and masks (R117 to R119) -/

/-- Some flag of `e` stands whose exception the masks `m` leave unmasked. -/
def Unmasks (e m : Exceptions) : Prop :=
  (e.range = true ∧ m.range = false) ∨ (e.invalid = true ∧ m.invalid = false) ∨
  (e.overflow = true ∧ m.overflow = false) ∨ (e.depleted = true ∧ m.depleted = false)

/-- Some flag of `e` stands whose exception goes from masked by `old` to unmasked by `new`. -/
def Unmasked (e old new : Exceptions) : Prop :=
  (e.range = true ∧ old.range = true ∧ new.range = false) ∨
  (e.invalid = true ∧ old.invalid = true ∧ new.invalid = false) ∨
  (e.overflow = true ∧ old.overflow = true ∧ new.overflow = false) ∨
  (e.depleted = true ∧ old.depleted = true ∧ new.depleted = false)

/-! ### Time (log 1) -/

/-- The expiry rows whose timers have run down: they run with 0 ms left. -/
def State.hasRunDown (s : State) (i : Instr) : Prop :=
  (i = .stalenessTimerExpiry ∧ s.samples.timer = .running 0) ∨
  (i = .reverseTimerExpiry ∧ s.crusher.reverse = .running 0) ∨
  (i = .probeTimerExpiry ∧ s.crusher.probe = .running 0) ∨
  (i = .drainTimerExpiry ∧ s.crusher.drain = .running 0) ∨
  (i = .routingTimerExpiry ∧ s.routing.timer = .running 0) ∨
  (∃ o : Fin 9, i = .gateTimerExpiry o ∧ s.outlets[o].timer = .running 0) ∨
  (∃ u : Fin 6, i = .flushTimerExpiry u ∧ s.filter.units[u].timer = .running 0) ∨
  (∃ (c : Fin 8) (k : ValveKind), i = .settleTimerExpiry c k ∧ (s.valve c k).timer = .running 0) ∨
  (i = .stepTimerExpiry ∧ s.grants.shed.timer = .running 0) ∨
  (∃ c : Fin 8, i = .linkTimerExpiry c ∧ s.cells[c].linkTimer = .running 0) ∨
  (∃ p : Port, i = .gapTimerExpiry p ∧ s.links.rx[rxIndex p].gap = .running 0)

/-! ### Alert sources and output lines (R14, R35, R50, R61, R66, R88, R124, R163, R195) -/

/-- When each source of the table of section 11.4 is active, its place in the table, and whether its
flag is latched (R195). -/
structure State.SourcesShown (s : State) : Prop where
  shed : s.alertActive .shed = true ↔
    s.grants.shed.state = .settling ∨ s.grants.shed.state = .exhausted
  blocked : s.alertActive .blocked = true ↔ s.crusher.state = .blocked
  jam : s.alertActive .jam = true ↔ s.trunk.halt.jam = true
  gateFault : s.alertActive .gateFault = true ↔ ∃ o : Fin 9, s.outlets[o].gate = .fault
  routingFault : s.alertActive .routingFault = true ↔ s.routing.state = .fault
  bin : s.alertActive .bin = true ↔ ∃ b : Fin 5, s.bins[b].unexpected = true
  filterFault : s.alertActive .filterFault = true ↔ ∃ u : Fin 6, s.filter.units[u].state = .fault
  pair : s.alertActive .pair = true ↔
    s.samples.clean.state = .disagree ∨ s.samples.dirty.state = .disagree
  exception : s.alertActive .exception = true ↔ s.balance.hold = true
  linkLost : s.alertActive .linkLost = true ↔
    ∃ c : Fin 8, s.cells[c].config.enabled = true ∧ s.cells[c].link = .lost
  registration : s.alertActive .registration = true ↔ s.trunk.registration = true
  samplesStale : s.alertActive .samplesStale = true ↔ s.samples.stale = true
  hpSupply : s.alertActive .hpSupply = true ↔ s.grants.hpFault = true
  floodSupply : s.alertActive .floodSupply = true ↔ s.grants.floodFault = true
  overload : s.alertActive .overload = true ↔ s.trunk.halt.overload = true
  /-- The order of the table. -/
  places : [AlertSource.shed, .blocked, .jam, .gateFault, .routingFault, .bin, .filterFault, .pair,
    .exception, .linkLost, .registration, .samplesStale, .hpSupply, .floodSupply, .overload].map
      (fun a => a.index.1) = List.range 15
  latched : ∀ a, s.isLatched a = true ↔ s.plant.enables[a.index] = true ∨ a = .blocked

/-- What each output line shows. -/
structure State.LinesShown (s : State) : Prop where
  /-- R14. -/
  run : s.lines.conveyorRun = true ↔
    s.part = .operating ∧ s.trunk.halt = ⟨false, false, false, false, false, false⟩
  /-- R35, R37. -/
  gates : ∀ o : Fin 9, s.lines.outletOpen[o] = true ↔ s.outlets[o].gate = .isOpen
  /-- R50. -/
  drives : (s.lines.crusherForward = true ↔
      s.part = .operating ∧ (s.crusher.state = .running ∨ s.crusher.state = .probing)) ∧
    (s.lines.crusherReverse = true ↔ s.part = .operating ∧ s.crusher.state = .reversing)
  /-- R61. -/
  position : s.lines.routingPosition = s.routing.position
  /-- R66. -/
  lamps : ∀ b : Fin 5, s.lines.binReleased[b] = true ↔ s.bins[b].state = .released
  /-- R88. -/
  flushes : ∀ u : Fin 6, s.lines.flushStart[u] = true ↔ s.filter.units[u].state = .flushing
  /-- R124. -/
  setpoints : ∀ c : Fin 8, s.lines.floodSetpoint[c] = (s.valve c .flood).commanded ∧
    s.lines.hpSetpoint[c] = (s.valve c .hp).commanded
  /-- R163. -/
  aux : ∀ c : Fin 8, s.lines.aux[c] = s.cells[c].aux
  /-- R195. -/
  alert : s.lines.alert = true ↔ ∃ a : AlertSource,
    (s.plant.enables[a.index] = true ∨ a = .blocked) ∧ s.plant.flags[a.index] = true

/-! ### The status block (R184) -/

/-- The layout of every cell's status block, and what an open lot is (R21, R184). -/
structure State.StatusBlocks (s : State) : Prop where
  block : ∀ c : Fin 8, s.statusBlock c = s.blockBytes c ++
    [indicatorByte s.balance.markers[c] s.cells[c].restored s.outlets[cellTx c].gate]
  openLot : ∀ (src : Source) (id : Fin 32) (l : Lot), s.openLot src = some (id, l) →
    s.intake.lots[id] = some l ∧ l.source = src ∧
      (l.state = .pending ∨ l.state = .reserved ∨ l.state = .loading)
  noLot : ∀ src : Source, s.openLot src = none → ∀ (id : Fin 32) (l : Lot),
    s.intake.lots[id] = some l → l.source = src →
      l.state ≠ .pending ∧ l.state ≠ .reserved ∧ l.state ≠ .loading

/-! ### Windows and preset lists -/

/-- Whether a lot may be reserved from an offset: gate lead, carrying run, free flights (R31) and
the three separation tests (R32). -/
structure State.MayReserve (s : State) (l : Lot) (w : Nat) : Prop where
  lead : s.outletOffset l.source.outlet + s.trunk.config.gateLead ≤ w
  run : w + l.flights ≤ s.trunk.config.carry
  free : ∀ k, k < l.flights → s.trunk.flight (w + k) = .empty
  below : ∀ p t purge, p < w → s.material (s.trunk.flight p) = some (t, purge) → t ≠ l.target →
    purge + s.trunk.config.routingLead ≤ s.trunk.clearCount p w
  above : ∀ q t purge, w + l.flights - 1 < q → q < s.trunk.config.carry →
    s.material (s.trunk.flight q) = some (t, purge) → t ≠ l.target →
      l.purge + s.trunk.config.routingLead ≤ s.trunk.clearCount (w + l.flights - 1) q
  across : ∀ p q t t' purge purge', p < w → w + l.flights - 1 < q → q < s.trunk.config.carry →
    s.material (s.trunk.flight p) = some (t, purge) →
    s.material (s.trunk.flight q) = some (t', purge') → t ≠ t' →
    purge + s.trunk.config.routingLead ≤ s.trunk.clearCount p q →
      purge + s.trunk.config.routingLead + l.flights ≤ s.trunk.clearCount p q

/-- Whether a lot's target bin accepts its reservation (R31). -/
def State.binTakes (s : State) (l : Lot) : Prop :=
  (l.target.bin.1 < 4 → s.bins[l.target.bin].state = .inService ∧
    s.bins[l.target.bin].fill + s.bins[l.target.bin].committed + l.declared ≤
      s.delivery.capacity[l.target.bin]) ∧
  (l.target.bin.1 = 4 →
    s.bins[l.target.bin].state = .inService ∨ s.bins[l.target.bin].state = .full)

/-- A valid preset list with at most `room` value blocks, read from an address: its blocks and the
address of its end mark (R153, R154). -/
inductive ValidList (m : List Host.Cell) : Nat → Nat → List Block → Nat → Prop where
  /-- The end mark. -/
  | done (room a : Nat) (inside : a < 512) (mark : Memory.read m a = 0) : ValidList m room a [] a
  /-- A value block of 1 to 8 values, all its bytes inside the memory. -/
  | block (room a last : Nat) (values : List Byte) (blocks : List Block) (b : Block)
      (count : (Memory.read m a).toNat = values.length) (least : 1 ≤ values.length)
      (most : values.length ≤ 8) (inside : a + 1 + values.length < 512)
      (first : b.first = (Memory.read m (a + 1)).toNat) (held : b.values = values)
      (outputs : b.first ≤ 7 ∧ b.first + values.length ≤ 8)
      (bytes : ∀ k (h : k < values.length), values[k] = Memory.read m (a + 2 + k))
      (rest : ValidList m room (a + values.length + 2) blocks last) :
      ValidList m (room + 1) a (b :: blocks) last

/-- The aux outputs after a list's blocks: each output takes the value of the last block that names
it, and keeps its own where none does (R153, R170). -/
def Applied (blocks : List Block) (old new : Vector Byte 8) : Prop :=
  ∀ k : Fin 8,
    ((∀ b ∈ blocks, ¬(b.first ≤ k.1 ∧ k.1 < b.first + b.values.length)) → new[k] = old[k]) ∧
    ∀ front b rest, blocks = front ++ b :: rest → b.first ≤ k.1 →
      (h : k.1 - b.first < b.values.length) →
      (∀ x ∈ rest, ¬(x.first ≤ k.1 ∧ k.1 < x.first + x.values.length)) →
        new[k] = b.values[k.1 - b.first]

/-! ### What a pitch does to flights, lots and gates (R3, R35, R36, R41 to R43, R51 to R54) -/

/-- No lot is handed to a RUNNING crusher with a purge count of 0 at a pitch: the one delivery whose
drain timer runs down within the pitch (R54, log 8). -/
def State.drainsLater (s : State) : Prop :=
  s.crusher.state = .running → ∀ x l, s.trunk.flight 0 = .loaded x → s.intake.lots[x] = some l →
    0 < l.purge

/-- The delivery at the crusher inlet of a pitch, from `s` to `t` (R51 to R54). -/
structure PitchDelivers (s t : State) : Prop where
  /-- R51: nothing enters. -/
  nothing : s.trunk.flight 0 = .empty → t.crusher = s.crusher
  /-- R51, R54: untracked material enters, the drain timer restarted at 15 pitch periods. -/
  untracked : s.trunk.flight 0 = .untracked → t.crusher = { s.crusher with
    untracked := true
    allowance := if s.crusher.untracked then s.crusher.allowance else s.delivery.untrackedAllowance
    drain := if s.crusher.state = .running then .running (15 * s.trunk.config.pitchPeriod)
      else .paused (15 * s.trunk.config.pitchPeriod) }
  /-- R52, R54: a LOADED flight enters the resident list, the drain timer restarted at the lot's
  purge count. -/
  loaded : ∀ x l, s.trunk.flight 0 = .loaded x → s.intake.lots[x] = some l → s.drainsLater →
    t.crusher = { s.crusher with
      residents := t.crusher.residents
      drain := if s.crusher.state = .running then .running (l.purge * s.trunk.config.pitchPeriod)
        else .paused (l.purge * s.trunk.config.pitchPeriod) } ∧
    ((∀ r ∈ s.crusher.residents, r.lot ≠ x) → t.crusher.residents = s.crusher.residents ++
      [⟨x, 1, decide (s.routing.position.mode = .crush), s.routing.position, false⟩]) ∧
    ((∃ r ∈ s.crusher.residents, r.lot = x) →
      t.crusher.residents = s.crusher.residents.map fun r =>
        if r.lot = x then { r with
          entered := r.entered + 1
          position := s.routing.position
          crusherPath := r.crusherPath || decide (s.routing.position.mode = .crush) } else r)
  /-- R54 with a purge count of 0 and the crusher RUNNING: the drain timer has run down (R55). -/
  drained : ∀ x l, s.trunk.flight 0 = .loaded x → s.intake.lots[x] = some l → l.purge = 0 →
    s.crusher.state = .running → t.crusher.drain = .stopped ∧ t.crusher.untracked = false
  /-- R52, R53: the lot has entered, and is CONTAMINATED where the routing was not SETTLED at its
  target; a spill in the same pitch contaminates it too (R42). -/
  marked : ∀ x l, s.trunk.flight 0 = .loaded x → s.intake.lots[x] = some l → s.drainsLater →
    ∃ l', t.intake.lots[x] = some l' ∧ l'.firstEntered = true ∧
      (l'.contaminated = true ↔ l.contaminated = true ∨
        ¬(s.routing.state = .settled ∧ s.routing.position = l.target) ∨
        (l.mixed = false ∧ l'.mixed = true))

/-- Whether an outlet spills: CLOSING, or in FAULT with its spill flag set (R41). -/
def State.spillsAt (s : State) (o : Fin 9) : Prop :=
  s.outletInUse o = true ∧
    (s.outlets[o].gate = .closing ∨ (s.outlets[o].gate = .fault ∧ s.outlets[o].spill = true))

/-- No lot but those in `ended` waits for a window, no sludge request is held, and the sludge lots in
`ended` had begun to load: the pending pass that follows the ending of the lots in `ended` has nothing
to do, and no flush is called off (R96). -/
def State.noneWaits (s : State) (ended : Fin 32 → Bool) : Prop :=
  s.intake.held = none ∧ ∀ (i : Fin 32) (l : Lot), s.intake.lots[i] = some l →
    (ended i = false → l.state ≠ .pending) ∧
    (ended i = true → l.source = .flush → s.filter.begun[i] = true)

/-- An outlet that is commanded closed (R37). -/
def State.closedOutlet (s : State) (o : Fin 9) : Outlet :=
  if s.inputs.gateClosed[o] then ⟨.closed, .stopped, false, s.outlets[o].closeTime⟩
  else { s.outlets[o] with gate := .closing, timer := .running s.outlets[o].closeTime }

/-- The move of the map in a pitch, from `s` to `t` (R3, R36, R41): what each flight of the carrying
run is one offset lower, and what comes on at the tail. -/
structure PitchMoves (s t : State) : Prop where
  /-- UNTRACKED stays. -/
  untracked : ∀ d, d + 1 < s.trunk.config.carry → s.trunk.flight (d + 1) = .untracked →
    t.trunk.flight d = .untracked
  /-- LOADED stays. -/
  loaded : ∀ d x, d + 1 < s.trunk.config.carry → s.trunk.flight (d + 1) = .loaded x →
    t.trunk.flight d = .loaded x
  /-- R36: RESERVED becomes LOADED where it passes the OPEN gate of its LOADING lot's outlet, and stays
  otherwise. -/
  reserved : ∀ d x l, d + 1 < s.trunk.config.carry → s.trunk.flight (d + 1) = .reserved x →
    s.intake.lots[x] = some l → t.trunk.flight d =
      if l.state = .loading ∧ s.outlets[l.source.outlet].gate = .isOpen ∧
          s.outletOffset l.source.outlet = d + 1 then .loaded x else .reserved x
  /-- R41: EMPTY that passes a spilling outlet becomes UNTRACKED. -/
  spilled : ∀ d, d < s.trunk.config.carry →
    (d + 1 < s.trunk.config.carry → s.trunk.flight (d + 1) = .empty) →
    (∃ o, s.spillsAt o ∧ s.outletOffset o = d + 1) → t.trunk.flight d = .untracked
  /-- R3 step 3: EMPTY stays otherwise, and comes on at the tail; the pass that follows may reserve it
  (R33). -/
  empty : ∀ d, d < s.trunk.config.carry →
    (d + 1 < s.trunk.config.carry → s.trunk.flight (d + 1) = .empty) →
    (∀ o, s.spillsAt o → s.outletOffset o ≠ d + 1) →
      (t.trunk.flight d = .empty ∨ ∃ x : Fin 32, t.trunk.flight d = .reserved x) ∧
      (s.noneWaits (fun _ => false) → s.bankQuiet → t.trunk.flight d = .empty)

/-- The gates and the loading of a pitch, from `s` to `t` (R35, R36). -/
structure PitchLoads (s t : State) : Prop where
  /-- R35: the gate opens for a RESERVED lot whose lowest flight has come to offset o + W. -/
  opens : ∀ (o : Fin 9) id l d, s.outletInUse o = true →
    (s.outlets[o].gate = .closed ∨ s.outlets[o].gate = .closing) →
    s.openLot (outletSource o) = some (id, l) → l.state = .reserved →
    (s.trunk.lotOffsets id).head? = some d → 1 ≤ d →
    d ≤ s.outletOffset o + s.trunk.config.gateLead + 1 →
      t.outlets[o] = ⟨.isOpen, .stopped, true, s.outlets[o].closeTime⟩ ∧
      ∃ l', t.intake.lots[id] = some l' ∧ l'.state = .loading
  /-- R35: a CLOSED gate stays closed where no lot of its outlet is RESERVED. -/
  stays : ∀ o : Fin 9, s.outlets[o].gate = .closed → s.intake.held = none →
    (∀ i : Fin 32, ∀ l, s.intake.lots[i] = some l → l.state ≠ .reserved ∧ l.state ≠ .pending) →
    s.bankQuiet → s.drainsLater → t.outlets[o] = s.outlets[o]
  /-- R36: the RESERVED flight of the LOADING lot that passes the outlet is loaded. -/
  loads : ∀ (o : Fin 9) id l, s.outletInUse o = true → s.outlets[o].gate = .isOpen →
    s.openLot (outletSource o) = some (id, l) → l.state = .loading → 1 ≤ s.outletOffset o →
    s.outletOffset o < s.trunk.config.carry → s.trunk.flight (s.outletOffset o) = .reserved id →
      t.trunk.flight (s.outletOffset o - 1) = .loaded id
  /-- R36: with RESERVED flights left the gate stays OPEN and the lot LOADING. -/
  goesOn : ∀ (o : Fin 9) id l d, s.outletInUse o = true → s.outlets[o].gate = .isOpen →
    s.openLot (outletSource o) = some (id, l) → l.state = .loading → 1 ≤ s.outletOffset o →
    1 ≤ d → d < s.trunk.config.carry → d ≠ s.outletOffset o → s.trunk.flight d = .reserved id →
      t.outlets[o] = s.outlets[o] ∧ ∃ l', t.intake.lots[id] = some l' ∧ l'.state = .loading
  /-- R36, R37, R175: with the last RESERVED flight loaded the gate is commanded closed and the lot is
  IN_TRANSIT, counted in its cell's active job. -/
  completes : ∀ (c : Fin 8) id l, s.cells[c].config.enabled = true →
    s.outlets[cellTx c].gate = .isOpen → s.openLot (.cell c) = some (id, l) → l.state = .loading →
    1 ≤ s.cells[c].config.outletOffset → s.cells[c].config.outletOffset < s.trunk.config.carry →
    s.trunk.flight s.cells[c].config.outletOffset = .reserved id →
    (∀ d, 1 ≤ d → d < s.trunk.config.carry → d ≠ s.cells[c].config.outletOffset →
      s.trunk.flight d ≠ .reserved id) →
    (∀ i : Fin 32, i ≠ id → ∀ l', s.intake.lots[i] = some l' → l'.source = .cell c →
      l'.state = .inTransit) → s.drainsLater →
      t.outlets[cellTx c] = s.closedOutlet (cellTx c) ∧
      (∃ l', t.intake.lots[id] = some l' ∧ l'.state = .inTransit) ∧
      (s.cells[c].active ≠ none →
        t.cells[c].working.lots = min 65535 (s.cells[c].working.lots + 1) ∧
        t.cells[c].working.volume =
          min 16777215 (s.cells[c].working.volume + l.actual.getD l.declared))
  /-- R175: a cell whose LOADING lot does not pass its outlet counts nothing. -/
  uncounted : ∀ c : Fin 8, (∀ id l, s.openLot (.cell c) = some (id, l) → l.state = .loading →
    s.trunk.flight s.cells[c].config.outletOffset ≠ .reserved id) → t.cells[c] = s.cells[c]
  /-- R36, R37, R44: with the last RESERVED flight of the sludge lot loaded the flush gate is commanded
  closed and the lot is IN_TRANSIT; a held sludge request is made into a lot if a record is free. -/
  completesFlush : ∀ id l, s.outlets[(8 : Fin 9)].gate = .isOpen →
    s.openLot .flush = some (id, l) → l.state = .loading → 1 ≤ s.trunk.config.flushOffset →
    s.trunk.config.flushOffset < s.trunk.config.carry →
    s.trunk.flight s.trunk.config.flushOffset = .reserved id →
    (∀ d, 1 ≤ d → d < s.trunk.config.carry → d ≠ s.trunk.config.flushOffset →
      s.trunk.flight d ≠ .reserved id) → s.bankQuiet → s.drainsLater →
      (∃ l', t.intake.lots[id] = some l' ∧ l'.state = .inTransit) ∧
      ((s.intake.held = none ∨ ∀ i : Fin 32, s.intake.lots[i] ≠ none) →
        t.outlets[(8 : Fin 9)] = s.closedOutlet 8 ∧ t.intake.held = s.intake.held) ∧
      (∀ r, s.intake.held = some r → (∃ i : Fin 32, s.intake.lots[i] = none) →
        t.intake.held = none ∧ ∃ (i : Fin 32) (l' : Lot), s.intake.lots[i] = none ∧
          t.intake.lots[i] = some l' ∧ l'.source = .flush ∧ l'.flights = r.flights ∧
          l'.declared = r.volume ∧ l'.state.isOpen = true)

/-- The spill of a pitch and the MIXED marking with its spread, from `s` to `t` (R41 to R43). -/
structure PitchSpills (s t : State) : Prop where
  /-- R41: an EMPTY flight that passes a spilling outlet becomes UNTRACKED. -/
  empty : ∀ o : Fin 9, s.spillsAt o → 1 ≤ s.outletOffset o →
    s.outletOffset o < s.trunk.config.carry → s.trunk.flight (s.outletOffset o) = .empty →
      t.trunk.flight (s.outletOffset o - 1) = .untracked
  /-- R41, R42: another lot's flight that passes a spilling outlet makes the lot MIXED and
  SPILLED_INTO; it is retargeted if it had not entered the crusher, CONTAMINATED if it had. -/
  mixed : ∀ (o : Fin 9) (x : Fin 32) l, s.spillsAt o → s.drainsLater → 1 ≤ s.outletOffset o →
    s.outletOffset o < s.trunk.config.carry →
    (s.trunk.flight (s.outletOffset o) = .reserved x ∨
      s.trunk.flight (s.outletOffset o) = .loaded x) →
    s.intake.lots[x] = some l → l.source ≠ outletSource o →
      ∃ l', t.intake.lots[x] = some l' ∧ l'.mixed = true ∧ l'.spilledInto = true ∧
        (l.mixed = true → l'.target = l.target) ∧
        (l.mixed = false → l.firstEntered = true ∨ s.trunk.flight 0 = .loaded x →
          l'.target = l.target ∧ l'.contaminated = true) ∧
        (l.mixed = false → l.firstEntered = false → s.trunk.flight 0 ≠ .loaded x →
          l'.target = ⟨4, .crush⟩)
  /-- With no spilling outlet no lot is marked. -/
  clean : (∀ o, ¬s.spillsAt o) → s.drainsLater → ∀ (x : Fin 32) l, s.intake.lots[x] = some l →
    ∃ l', t.intake.lots[x] = some l' ∧ l'.mixed = l.mixed ∧ l'.spilledInto = l.spilledInto ∧
      l'.target = l.target
  /-- R42, R43: a lot marked by the spread alone is MIXED without SPILLED_INTO having changed. -/
  spread : s.drainsLater → ∀ (x : Fin 32) l, s.intake.lots[x] = some l →
    ∃ l', t.intake.lots[x] = some l' ∧ (l.mixed = true → l'.mixed = true) ∧
      (l'.mixed = false → l'.target = l.target ∧ l'.spilledInto = l.spilledInto) ∧
      (l.spilledInto = false → l'.spilledInto = true → ∃ o : Fin 9, s.spillsAt o ∧
        l.source ≠ outletSource o ∧ (s.trunk.flight (s.outletOffset o) = .reserved x ∨
          s.trunk.flight (s.outletOffset o) = .loaded x))
  /-- R43: no lot under another target is left closer to a retargeted lot than the lower one's purge
  count plus D. -/
  apart : s.drainsLater → ∀ (x y : Fin 32) lx ly lx' ly', x ≠ y → s.intake.lots[x] = some lx →
    s.intake.lots[y] = some ly → lx.state ≠ .pending → ly.state ≠ .pending →
    t.intake.lots[x] = some lx' → t.intake.lots[y] = some ly' → lx.mixed = false →
    lx'.mixed = true → lx.firstEntered = false → s.trunk.flight 0 ≠ .loaded x →
    ly'.mixed = false → ly'.target ≠ ⟨4, .crush⟩ →
    ∀ x0 x1 y0 y1, (t.trunk.lotOffsets x).head? = some x0 →
      (t.trunk.lotOffsets x).getLast? = some x1 → (t.trunk.lotOffsets y).head? = some y0 →
      (t.trunk.lotOffsets y).getLast? = some y1 →
        (x0 < y0 → lx.purge + s.trunk.config.routingLead ≤ t.trunk.clearCount x1 y0) ∧
        (y0 < x0 → ly.purge + s.trunk.config.routingLead ≤ t.trunk.clearCount y1 x0)

/-! ### The routing unit's examination (R62 to R65) -/

/-- The material flight at offset D or below that is the lowest, with its material target (R62). -/
def State.lowestIs (t : State) (m : Target) : Prop :=
  ∃ d, d ≤ t.trunk.config.routingLead ∧ d < t.trunk.config.carry ∧
    (∃ purge, t.material (t.trunk.flight d) = some (m, purge)) ∧
    ∀ e, e < d → t.trunk.flight e = .empty

/-- BIN as the bin condition has it (R65). -/
def State.BinShown (t : State) : Prop :=
  t.trunk.halt.bin = true ↔ ∃ d m purge, d ≤ t.trunk.config.routingLead ∧ d < t.trunk.config.carry ∧
    t.material (t.trunk.flight d) = some (m, purge) ∧ (t.bins[m.bin].state = .released ∨
      t.bins[m.bin].state = .absent ∨ t.bins[m.bin].state = .presentWait)

/-- The examination of the flights at offsets 0 to D, as it stands in `t`; `r` is the routing unit as
the examination finds it. That R64 speaks of any material flight there is log 30. -/
structure RoutingExamined (r : Routing) (t : State) : Prop where
  /-- R62: a move starts to the target of the lowest material flight, with the crusher drained. -/
  moves : ∀ m, t.lowestIs m → m ≠ r.position → t.crusher.residents = [] →
    t.crusher.untracked = false → t.routing = ⟨m, .moving, .running t.delivery.routingTime⟩
  /-- R62: otherwise no move starts. -/
  stays : (∀ m, t.lowestIs m → m = r.position ∨ t.crusher.residents ≠ [] ∨
    t.crusher.untracked = true) → t.routing = r
  /-- R64: ROUTING. -/
  routing : t.trunk.halt.routing = true ↔ ∃ d m purge, d ≤ t.trunk.config.routingLead ∧
    d < t.trunk.config.carry ∧ t.material (t.trunk.flight d) = some (m, purge) ∧
    ¬(t.routing.state = .settled ∧ t.routing.position = m)
  /-- R65: BIN. -/
  bin : t.BinShown

/-- A command that is no frame: its effect is `u`, with the routing unit at `r`, followed by the
routing unit's examination and by nothing else. -/
def Examines (i : Instr) (s u : State) (r : Routing) : Prop :=
  ∃ t, exec i s = .next t ∧ RoutingExamined r t ∧
    t.inner = ((u.withRouting t.routing).withTrunk { u.trunk with
      halt := { u.trunk.halt with routing := t.trunk.halt.routing, bin := t.trunk.halt.bin } }).inner ∧
    Unasked s t ∧ Quiet s t

/-! ### Selection of a unit for flush (R93 to R95) -/

/-- The group of a waiting unit: forced, at or above dp_max, the rest (R94); `s` is the state before a
sample set, `t` the state after it. -/
def flushGroupOf (s t : State) (u : Fin 6) : Nat :=
  if s.filter.units[u].forced then 0
  else if s.filter.units[u].config.dpMax ≤ (t.unitDp u).value then 1 else 2

/-- The order of R94: group, then the higher dp, then the lower unit number. -/
def flushBefore (s t : State) (a b : Fin 6) : Prop :=
  flushGroupOf s t a < flushGroupOf s t b ∨ (flushGroupOf s t a = flushGroupOf s t b ∧
    ((t.unitDp b).value < (t.unitDp a).value ∨
      ((t.unitDp b).value = (t.unitDp a).value ∧ a.1 < b.1)))

/-- Whether a unit waits when selection runs after a sample set: it was in FLUSH_WAIT, or the set
brings it there (R91). -/
def waitsForFlush (s t : State) (u : Fin 6) : Prop :=
  s.filter.units[u].state = .flushWait ∨
    (s.filter.units[u].state = .online ∧ s.filter.units[u].postCheck = false ∧
      (t.unitDp u).held = false ∧ s.filter.units[u].config.dpFlush ≤ (t.unitDp u).value)

/-- The headroom check's figure by the record of a state (section 5.4): the headroom of the unit's
group of filters less its availability. -/
def checkFigure (t : State) (u : Fin 6) : Int :=
  (if u.1 < 4 then t.balance.record.hTotal else t.balance.record.hPolish) - t.balance.record.avail[u]

/-- The figures the headroom check reads are the ones the event ends with, but for the flush that the
selection itself begins: no request is pending and no counted grant is below its commanded grant, so
that no grant counts more after the result's handling, and no other unit is FLUSH_READY. -/
def State.figuresStand (s : State) : Prop :=
  (∀ (c : Fin 8) (k : ValveKind), (s.valve c k).pending = none ∧
    (s.valve c k).commanded ≤ (s.valve c k).counted) ∧
  ∀ u : Fin 6, s.filter.units[u].state ≠ .flushReady

/-- Selection after a sample set in OPERATING with the flush slot absent (R93 to R95). -/
structure FlushSelected (s t : State) : Prop where
  /-- R93: no unit waits. -/
  idle : (∀ u, ¬waitsForFlush s t u) → t.filter.slot = none ∧ t.filter.lastCheck = s.filter.lastCheck
  /-- R94: the candidate last tried, and its outcome. -/
  tried : (∃ u, waitsForFlush s t u) → ∃ r, t.filter.lastCheck = some r ∧ waitsForFlush s t r.unit ∧
    (r.outcome = .exempt ↔ flushGroupOf s t r.unit < 2) ∧
    (r.outcome = .exempt → ∀ u, waitsForFlush s t u → u = r.unit ∨ flushBefore s t r.unit u) ∧
    ((∃ u, waitsForFlush s t u ∧ flushGroupOf s t u < 2) → r.outcome = .exempt) ∧
    (r.outcome = .passed → ∃ x, r.headroom = some x ∧ 0 ≤ x) ∧
    (r.outcome = .failed → r.headroom = some (checkFigure t r.unit)) ∧
    (r.outcome = .hold → r.headroom = none ∧ t.balance.hold = true) ∧
    (r.outcome = .failed ∨ r.outcome = .hold →
      t.filter.slot = none ∧ (∀ u, waitsForFlush s t u → t.filter.units[u].state = .flushWait) ∧
      ∀ u, waitsForFlush s t u → (t.balance.hold = true ∨ checkFigure t u < 0) ∧
        (u = r.unit ∨ flushBefore s t u r.unit)) ∧
    (r.outcome = .exempt ∨ r.outcome = .passed → t.filter.slot = some r.unit ∧
      (t.filter.units[r.unit].state = .flushReady ∨ t.filter.units[r.unit].state = .flushing) ∧
      (s.openLot .flush = none → (∃ i : Fin 32, s.intake.lots[i] = none) →
        t.intake.held = none ∧ ∃ (i : Fin 32) (l : Lot), s.intake.lots[i] = none ∧
          t.intake.lots[i] = some l ∧ l.source = .flush ∧ l.flights = s.filter.sludge.flights ∧
          l.declared = s.filter.sludge.volume ∧ l.target = ⟨4, .bypass⟩ ∧ l.state.isOpen = true) ∧
      (s.openLot .flush ≠ none ∨ (∀ i : Fin 32, s.intake.lots[i] ≠ none) →
        t.intake.held = some ⟨s.filter.sludge.flights, s.filter.sludge.volume⟩))
  /-- R94: the headroom check is passed outside HOLD with a figure of 0 or above, by a candidate before
  which every other fails; the headroom recorded is the figure, where the flush has not yet begun. -/
  checked : s.figuresStand → (∃ u, waitsForFlush s t u) → ∀ r, t.filter.lastCheck = some r →
    (r.outcome = .passed → t.balance.hold = false ∧ 0 ≤ checkFigure t r.unit ∧
      ∀ u, waitsForFlush s t u → u = r.unit ∨ flushBefore s t r.unit u ∨ checkFigure t u < 0) ∧
    (r.outcome = .exempt ∨ r.outcome = .passed → t.filter.units[r.unit].state = .flushReady →
      r.headroom = some (checkFigure t r.unit))
  /-- R94: with no exempt candidate, and in HOLD or with every figure below 0, none is selected. -/
  refused : s.figuresStand → (∃ u, waitsForFlush s t u) →
    (∀ u, waitsForFlush s t u → flushGroupOf s t u = 2 ∧
      (t.balance.hold = true ∨ checkFigure t u < 0)) →
    t.filter.slot = none ∧
      ∃ r, t.filter.lastCheck = some r ∧ (r.outcome = .failed ∨ r.outcome = .hold)

/-! ### Supply faults (R142, R143) -/

/-- A consecutive-set count after a set: kept while the channel is held, one more up to 5 below the
limit with a grant out, otherwise 0 (R142, R143). -/
def HeaderCount (s t : State) (channel : Fin 14) (k : ValveKind) (limit old new : Nat) : Prop :=
  (t.samples.channels[channel].held = true → new = old) ∧
  (t.samples.channels[channel].held = false → t.samples.channels[channel].value < limit →
    (∃ c, 0 < (s.valve c k).commanded) → new = min 5 (old + 1)) ∧
  (t.samples.channels[channel].held = false →
    (limit ≤ t.samples.channels[channel].value ∨ ∀ c, (s.valve c k).commanded = 0) → new = 0)

/-- The header pressures of a set examined in OPERATING (R142, R143). -/
structure HeadersExamined (s t : State) : Prop where
  /-- R142: the HP count. -/
  hpCount : HeaderCount s t 12 .hp s.grants.supply.hpLow s.grants.hpCount t.grants.hpCount
  /-- R143: the flood count. -/
  floodCount : HeaderCount s t 13 .flood s.grants.supply.floodLow s.grants.floodCount
    t.grants.floodCount
  /-- R142: the HP supply fault. -/
  hpFault : t.grants.hpFault = (s.grants.hpFault || decide (t.grants.hpCount = 5))
  /-- R143: the flood supply fault, an alert alone. -/
  floodFault : t.grants.floodFault = (s.grants.floodFault || decide (t.grants.floodCount = 5))
  /-- R142: when the HP supply fault becomes set, every HP grant is withdrawn and every HP request
  cleared; the counted grants stand until their settle timers expire. -/
  withdrawn : s.grants.hpFault = false → t.grants.hpFault = true → ∀ c,
    (t.valve c .hp).commanded = 0 ∧ (t.valve c .hp).pending = none ∧
    (t.valve c .hp).counted = (s.valve c .hp).counted ∧
    (0 < (s.valve c .hp).commanded →
      (t.valve c .hp).timer = .running s.grants.supply.settleTime ∧
      ∃ r, Notice.grant (t.valve c .flood).commanded 0 r ∈ t.owedNotices c ∧
        (s.bankQuiet → (∀ u, ¬waitsForFlush s t u) →
          (t.valve c .flood).commanded = (s.valve c .flood).commanded → r = .hpFault))

/-! ### COMMISSION (R192) -/

/-- Whether the item of a number fails at COMMISSION (R192). -/
def State.itemFails (s : State) (n : Nat) : Prop :=
  (n = 1 ∧ ¬(16 ≤ s.trunk.config.carry ∧ s.trunk.config.carry ≤ 192 ∧
    s.trunk.config.carry < s.trunk.config.beltLength)) ∨
  (n = 2 ∧ ¬(2 ≤ s.trunk.config.routingLead ∧ s.trunk.config.routingLead ≤ 4)) ∨
  (n = 3 ∧ ¬(1 ≤ s.trunk.config.gateLead ∧ s.trunk.config.gateLead ≤ 8)) ∨
  (n = 4 ∧ ∀ c : Fin 8, s.cells[c].config.enabled = false) ∨
  (∃ c : Fin 8, n = 16 + c.1 ∧ s.cells[c].config.enabled = true ∧
    ¬(4 ≤ s.cells[c].config.outletOffset ∧
      s.cells[c].config.outletOffset + 1 ≤ s.trunk.config.carry ∧
      ∀ d : Fin 8, d.1 < c.1 → s.cells[d].config.enabled = true →
        s.cells[d].config.outletOffset ≠ s.cells[c].config.outletOffset)) ∨
  (n = 24 ∧ ¬(4 ≤ s.trunk.config.flushOffset ∧
    s.trunk.config.flushOffset + 1 ≤ s.trunk.config.carry ∧
    ∀ d : Fin 8, s.cells[d].config.enabled = true →
      s.cells[d].config.outletOffset ≠ s.trunk.config.flushOffset))

/-! ### Aux outputs at a start and a resumption (R153, R169, R170, R172) -/

/-- The aux outputs after a profile's preset list, from the outputs `base` it is applied over; without
PRESETS they are `kept`. -/
def State.NewAux (s : State) (p : Profile) (kept base new : Vector Byte 8) : Prop :=
  (p.presetStart = none → new = kept) ∧
  ∀ a, p.presetStart = some a → ∃ blocks last,
    ValidList s.profiles.memory 16 a blocks last ∧ Applied blocks base new

/-! ### Lots and windows (R22, R30 to R33, R35, R39, R60) -/

/-- A gate's FAULT returns the RESERVED open lot of its outlet to PENDING (R39): its flights are EMPTY,
which the pass that follows may reserve for another lot, and its notice is owed; with no other lot
PENDING every other flight is as it was, its commitment is removed and a CLOSING bin left without
commitments is RELEASED (R22, R67). A LOADED flight that names a RESERVED lot does not arise (R35); it
becomes UNTRACKED. -/
def LotSetBack (s t : State) (o : Fin 9) : Prop :=
  ∀ (id : Fin 32) (l : Lot), s.openLot (outletSource o) = some (id, l) → l.state = .reserved →
    t.intake.lots[id] = some { l with state := .pending } ∧
    (∀ d, d < s.trunk.config.carry →
      t.trunk.flight d ≠ .reserved id ∧ t.trunk.flight d ≠ .loaded id ∧
      (s.trunk.flight d = .reserved id →
        t.trunk.flight d = .empty ∨ ∃ y : Fin 32, t.trunk.flight d = .reserved y)) ∧
    (∀ c, l.source = .cell c → l.notify = true →
      Notice.lot id .pending l.mixed l.short l.spilledInto l.contaminated ∈ t.owedNotices c) ∧
    ((∀ i : Fin 32, i ≠ id → ∀ x, s.intake.lots[i] = some x → x.state ≠ .pending) →
      (∀ d, d < s.trunk.config.carry → t.trunk.flight d =
        if s.trunk.flight d = .reserved id then .empty
        else if s.trunk.flight d = .loaded id then .untracked else s.trunk.flight d) ∧
      t.bins[l.target.bin] = { s.bins[l.target.bin] with
        committed := s.bins[l.target.bin].committed - l.actual.getD l.declared
        state := if s.bins[l.target.bin].state = .closing ∧
            s.bins[l.target.bin].committed ≤ l.actual.getD l.declared then .released
          else s.bins[l.target.bin].state })

/-- The reservation of the one PENDING lot by the pass that follows its creation (R30 to R33, R22), and
the opening of its gate where its window starts at o + W (R33, R35). -/
structure WindowTaken (s t : State) (id : Fin 32) (l : Lot) : Prop where
  /-- No window, or no room in the bin: the lot stays PENDING. -/
  waits : (¬s.binTakes l ∨ ∀ w, ¬s.MayReserve l w) →
    l.state = .pending ∧ t.trunk.map = s.trunk.map ∧ t.bins = s.bins ∧ t.outlets = s.outlets
  /-- The smallest window is reserved and the declared volume committed. -/
  reserved : ∀ w, s.binTakes l → s.MayReserve l w → (∀ v, v < w → ¬s.MayReserve l v) →
    (∀ d, d < s.trunk.config.carry → t.trunk.flight d =
      if w ≤ d ∧ d < w + l.flights then .reserved id else s.trunk.flight d) ∧
    t.bins = put s.bins l.target.bin { s.bins[l.target.bin] with
      committed := s.bins[l.target.bin].committed + l.declared } ∧
    (w = s.outletOffset l.source.outlet + s.trunk.config.gateLead →
      (s.outlets[l.source.outlet].gate = .closed ∨ s.outlets[l.source.outlet].gate = .closing) →
        l.state = .loading ∧ t.outlets = put s.outlets l.source.outlet
          ⟨.isOpen, .stopped, true, s.outlets[l.source.outlet].closeTime⟩) ∧
    (w ≠ s.outletOffset l.source.outlet + s.trunk.config.gateLead ∨
        s.outlets[l.source.outlet].gate = .isOpen →
      l.state = .reserved ∧ t.outlets = s.outlets) ∧
    (∀ c, l.source = .cell c → l.notify = true →
      Notice.lot id l.state false false false false ∈ t.owedNotices c)

/-! ### Lots that end, gates that close (R9, R22, R23, R27, R37, R46) -/

/-- A bin from which a commitment is removed; a CLOSING bin left without one is RELEASED (R22, R67). -/
def State.binWithout (s : State) (b : Fin 5) (v : Nat) : Bin :=
  { s.bins[b] with
    committed := s.bins[b].committed - v
    state := if s.bins[b].state = .closing ∧ s.bins[b].committed ≤ v then .released
      else s.bins[b].state }

/-- A lot that has reached a final state (R23): its record is freed, and may be taken by a sludge lot
at once; no flight is left with it; its notice is owed, with the flags as they stand (R46). -/
structure LotEnded (s t : State) (id : Fin 32) (l : Lot) (final : LotState) : Prop where
  freed : ∀ l', t.intake.lots[id] = some l' → l'.source = .flush
  flights : ∀ d, d < s.trunk.config.carry → t.trunk.flight d ≠ .loaded id ∧
    (t.intake.lots[id] = none → t.trunk.flight d ≠ .reserved id)
  notice : ∀ c, l.source = .cell c → l.notify = true →
    Notice.lot id final l.mixed l.short l.spilledInto l.contaminated ∈ t.owedNotices c

/-- What the lots in `lost` had committed of a bin (R22). -/
def State.lostVolume (s : State) (lost : Fin 32 → Bool) (b : Fin 5) : Nat :=
  ((List.finRange 32).map fun i => match s.intake.lots[i] with
    | some l => if lost i = true ∧ l.target.bin = b ∧
        (l.state = .reserved ∨ l.state = .loading ∨ l.state = .inTransit) then
          l.actual.getD l.declared else 0
    | none => 0).sum

/-- The lots in `lost` have lost their place on the trunk (R9). -/
structure LotsLost (s t : State) (lost : Fin 32 → Bool) : Prop where
  /-- Each is LOST, and its record freed. -/
  ended : ∀ (id : Fin 32) (l : Lot), lost id = true → s.intake.lots[id] = some l →
    LotEnded s t id l .lost
  /-- Every other lot goes on; it may find a window in the pass that follows. -/
  others : ∀ (id : Fin 32) (l : Lot), lost id = false → s.intake.lots[id] = some l →
    ∃ l', t.intake.lots[id] = some l' ∧ { l' with state := l.state } = l
  /-- With none of them in the crusher, the crusher is as it was. -/
  outside : (∀ r ∈ s.crusher.residents, lost r.lot = false) → t.crusher = s.crusher
  /-- What they put into the crusher is untracked material. -/
  inside : (∃ r ∈ s.crusher.residents, lost r.lot = true) → t.crusher = { s.crusher with
    residents := s.crusher.residents.filter fun r => !lost r.lot
    untracked := true
    allowance := if s.crusher.untracked then s.crusher.allowance else s.delivery.untrackedAllowance
    drain := match s.crusher.drain with
      | .stopped => if s.crusher.state = .running then .running (15 * s.trunk.config.pitchPeriod)
        else .paused (15 * s.trunk.config.pitchPeriod)
      | x => x }
  /-- No fill is added. -/
  fills : ∀ b : Fin 5, t.bins[b].fill = s.bins[b].fill
  /-- Records, gates and commitments, where the pass that follows finds nothing to do. -/
  calm : s.noneWaits lost →
    (∀ i : Fin 32, t.intake.lots[i] = if lost i then none else s.intake.lots[i]) ∧
    (∀ o : Fin 9, ((∃ (i : Fin 32) (l : Lot), lost i = true ∧ s.intake.lots[i] = some l ∧
        l.source.outlet = o ∧ l.state = .loading) → t.outlets[o] = s.closedOutlet o) ∧
      ((∀ (i : Fin 32) (l : Lot), lost i = true → s.intake.lots[i] = some l →
        l.source.outlet = o → l.state ≠ .loading) → t.outlets[o] = s.outlets[o])) ∧
    ∀ b : Fin 5, t.bins[b].committed = s.bins[b].committed - s.lostVolume lost b

/-- The bins after the delivery accounting of one lot into bin `b`, from the bins `bins` (R56, R67,
R68): the commitment leaves the target bin, the volume goes into the bin of the delivery position, a
CLOSING bin without commitments is RELEASED, an IN_SERVICE bin at its capacity is FULL. -/
def State.accounted (s : State) (bins : Vector Bin 5) (l : Lot) (b : Fin 5) : Vector Bin 5 :=
  let uncommitted := change bins l.target.bin fun x =>
    { x with committed := x.committed - l.actual.getD l.declared }
  let filled := change uncommitted b fun x => { x with
    fill := if x.state = .released ∨ x.state = .absent ∨ x.state = .presentWait then x.fill
      else if b.1 < 4 then min (x.fill + l.actual.getD l.declared) (s.delivery.capacity[b] - x.committed)
      else min (x.fill + l.actual.getD l.declared) 16777215 }
  let released := change filled l.target.bin fun x =>
    if x.state = .closing ∧ x.committed = 0 then { x with state := .released } else x
  change released b fun x =>
    if x.state = .inService ∧ s.delivery.capacity[b] ≤ x.fill then { x with state := .full } else x

/-- The bins after the lots in `done` are accounted for, entry by entry of the resident list (R55,
R56). -/
def State.binsDelivered (s : State) (done : Fin 32 → Bool) : Vector Bin 5 :=
  (s.crusher.residents.filter fun r => done r.lot).foldl (fun bins r =>
    match s.intake.lots[r.lot] with
    | some l => s.accounted bins l r.position.bin
    | none => bins) s.bins

/-- The lots in `done` are DELIVERED at the drain timer's expiry (R55, R56). -/
structure LotsDelivered (s t : State) (done : Fin 32 → Bool) : Prop where
  /-- R55: they leave the resident list, the others stay in order, and untracked material leaves. -/
  crusher : t.crusher = { s.crusher with
    residents := s.crusher.residents.filter fun r => !done r.lot
    untracked := false
    drain := .stopped }
  /-- R23, R46: each is DELIVERED; all its flights have entered, so that the map names it nowhere. -/
  ended : ∀ (id : Fin 32) (l : Lot), done id = true → s.intake.lots[id] = some l →
    (∀ d, d < s.trunk.config.carry → (s.trunk.flight d).lot? ≠ some id) →
      LotEnded s t id l .delivered
  /-- Every other lot goes on; it may find a window in the pass that follows. -/
  others : ∀ (id : Fin 32) (l : Lot), done id = false → s.intake.lots[id] = some l →
    ∃ l', t.intake.lots[id] = some l' ∧ { l' with state := l.state } = l
  /-- R56, R67, R68: fill, bin state and flag of every bin; the pass that follows may commit more. -/
  bins : ∀ b : Fin 5, { t.bins[b] with committed := (s.binsDelivered done)[b].committed } =
    (s.binsDelivered done)[b] ∧ (s.binsDelivered done)[b].committed ≤ t.bins[b].committed
  /-- Records, commitments, gates, flights and flush, where the pass that follows finds nothing to do;
  a sludge lot among them is no longer a begun one (R96). -/
  calm : s.noneWaits done →
    (∀ i : Fin 32, t.intake.lots[i] = if done i then none else s.intake.lots[i]) ∧
    t.bins = s.binsDelivered done ∧ t.outlets = s.outlets ∧
    (∀ d, d < s.trunk.config.carry → t.trunk.flight d = s.trunk.flight d) ∧
    t.filter.units = s.filter.units ∧ t.filter.slot = s.filter.slot ∧
    ∀ (i : Fin 32) (l : Lot), done i = true → s.intake.lots[i] = some l → l.source = .flush →
      t.filter.begun[i] = false

/-- The lots in `gone` are removed by CRUSHER_CLEARED (R60, steps 1 to 3). -/
structure LotsRemoved (s t : State) (gone : Fin 32 → Bool) : Prop where
  /-- Each is REMOVED, a LOADING one SHORT. -/
  ended : ∀ (id : Fin 32) (l : Lot), gone id = true → s.intake.lots[id] = some l →
    LotEnded s t id { l with short := l.short || l.state == .loading } .removed
  /-- Every other lot goes on; it may find a window in the pass that follows. -/
  others : ∀ (id : Fin 32) (l : Lot), gone id = false → s.intake.lots[id] = some l →
    ∃ l', t.intake.lots[id] = some l' ∧ { l' with state := l.state } = l
  /-- A removed lot's LOADED flights become UNTRACKED. -/
  loaded : ∀ d x, d < s.trunk.config.carry → s.trunk.flight d = .loaded x → gone x = true →
    t.trunk.flight d = .untracked
  /-- Its RESERVED flights become EMPTY, and may be reserved afresh by the pass that follows. -/
  reserved : ∀ d x, d < s.trunk.config.carry → s.trunk.flight d = .reserved x → gone x = true →
    t.trunk.flight d = .empty ∨ ∃ y : Fin 32, t.trunk.flight d = .reserved y
  /-- A LOADING one among them is counted in its cell's active job (R175). -/
  counted : ∀ (c : Fin 8) (id : Fin 32) (l : Lot), gone id = true → s.intake.lots[id] = some l →
    l.source = .cell c → l.state = .loading →
    (∀ (i : Fin 32) (m : Lot), gone i = true → s.intake.lots[i] = some m → m.source = .cell c →
      m.state = .loading → i = id) →
    t.cells[c] = if s.cells[c].active = none then s.cells[c] else { s.cells[c] with
      working := { s.cells[c].working with
        lots := min 65535 (s.cells[c].working.lots + 1)
        volume := min 16777215 (s.cells[c].working.volume + l.actual.getD l.declared) } }
  /-- Every other cell is as it was. -/
  uncounted : ∀ c : Fin 8, (∀ (id : Fin 32) (l : Lot), gone id = true →
    s.intake.lots[id] = some l → l.source = .cell c → l.state ≠ .loading) → t.cells[c] = s.cells[c]
  /-- Records, gates, flights and bins, where the pass that follows finds nothing to do. -/
  calm : s.noneWaits gone →
    (∀ i : Fin 32, t.intake.lots[i] = if gone i then none else s.intake.lots[i]) ∧
    (∀ o : Fin 9, ((∃ (i : Fin 32) (l : Lot), gone i = true ∧ s.intake.lots[i] = some l ∧
        l.source.outlet = o ∧ l.state = .loading) → t.outlets[o] = s.closedOutlet o) ∧
      ((∀ (i : Fin 32) (l : Lot), gone i = true → s.intake.lots[i] = some l →
        l.source.outlet = o → l.state ≠ .loading) → t.outlets[o] = s.outlets[o])) ∧
    (∀ d, d < s.trunk.config.carry →
      (∀ x, s.trunk.flight d = .reserved x → gone x = true → t.trunk.flight d = .empty) ∧
      ((∀ x, (s.trunk.flight d).lot? = some x → gone x = false) →
        t.trunk.flight d = s.trunk.flight d)) ∧
    ∀ b : Fin 5, ((∃ (i : Fin 32) (l : Lot), gone i = true ∧ s.intake.lots[i] = some l ∧
        l.target.bin = b ∧ l.state.isCommitted = true) →
          t.bins[b] = s.binWithout b (s.lostVolume gone b)) ∧
      ((∀ (i : Fin 32) (l : Lot), gone i = true → s.intake.lots[i] = some l → l.target.bin = b →
        l.state.isCommitted = false) → t.bins[b] = s.bins[b])

/-- The carrying run moved up by `e` offsets (R10, steps 1 and 2) and cleared of the lots in `lost`
(R9); flights made EMPTY may be reserved by the pass that follows. -/
structure RunMovedUp (s t : State) (e : Nat) (lost : Fin 32 → Bool) : Prop where
  cleared : ∀ d, d < e → d < s.trunk.config.carry → t.trunk.flight d = .untracked
  untracked : ∀ d, d + e < s.trunk.config.carry → s.trunk.flight d = .untracked →
    t.trunk.flight (d + e) = .untracked
  loaded : ∀ d x, d + e < s.trunk.config.carry → s.trunk.flight d = .loaded x →
    t.trunk.flight (d + e) = if lost x then .untracked else .loaded x
  reserved : ∀ d x, d + e < s.trunk.config.carry → s.trunk.flight d = .reserved x →
    (lost x = false → t.trunk.flight (d + e) = .reserved x) ∧
    (lost x = true → t.trunk.flight (d + e) = .empty ∨
      ∃ y : Fin 32, t.trunk.flight (d + e) = .reserved y) ∧
    (lost x = true → s.noneWaits lost → t.trunk.flight (d + e) = .empty)
  empty : ∀ d, d + e < s.trunk.config.carry → s.trunk.flight d = .empty →
    (t.trunk.flight (d + e) = .empty ∨ ∃ y : Fin 32, t.trunk.flight (d + e) = .reserved y) ∧
    (s.noneWaits lost → t.trunk.flight (d + e) = .empty)

/-- The cancellation of a cell's open lot that has not begun to load (R26, R28). -/
structure LotCancelled (s t : State) (id : Fin 32) (l : Lot) : Prop where
  ended : LotEnded s t id l .cancelled
  /-- No close is commanded, a RESERVED lot's flights are EMPTY and its commitment released, and
  nothing else stands otherwise where the pass that follows finds nothing to do. -/
  calm : s.noneWaits (fun i => decide (i = id)) →
    t.intake.lots = put s.intake.lots id none ∧ t.outlets = s.outlets ∧
    (∀ d, d < s.trunk.config.carry → t.trunk.flight d =
      if s.trunk.flight d = .reserved id then .empty
      else if s.trunk.flight d = .loaded id then .untracked else s.trunk.flight d) ∧
    t.bins = if l.state = .reserved then
      put s.bins l.target.bin (s.binWithout l.target.bin (l.actual.getD l.declared)) else s.bins

/-- How many flights of a LOADING lot have become LOADED at DISCHARGE_END, that under the outlet among
them: in the map, and already in the crusher (R27). -/
def State.flightsLoaded (s : State) (id : Fin 32) (o : Nat) : Nat :=
  ((List.range s.trunk.config.carry).filter fun d => decide (s.trunk.flight d = .loaded id ∨
    (s.trunk.flight d = .reserved id ∧ d = o))).length +
  match s.crusher.residents.find? fun r => decide (r.lot = id) with
  | some r => r.entered
  | none => 0

/-- The flights of a cell's LOADING lot at DISCHARGE_END (R27). -/
structure LoadingCut (s t : State) (id : Fin 32) (o : Nat) : Prop where
  loaded : ∀ d, d < s.trunk.config.carry → s.trunk.flight d = .loaded id →
    t.trunk.flight d = .loaded id
  under : o < s.trunk.config.carry → s.trunk.flight o = .reserved id → t.trunk.flight o = .loaded id
  above : ∀ d, o < d → d < s.trunk.config.carry → s.trunk.flight d = .reserved id →
    (t.trunk.flight d = .empty ∨ ∃ x : Fin 32, t.trunk.flight d = .reserved x) ∧
    (s.noneWaits (fun i => decide (i = id)) → t.trunk.flight d = .empty)
  others : s.noneWaits (fun i => decide (i = id)) → ∀ d, d < s.trunk.config.carry →
    (s.trunk.flight d).lot? ≠ some id → t.trunk.flight d = s.trunk.flight d

/-! ### What a read image holds (R17, R47, R72, R86, R103, R121, R147, R161, R176, R179, R189) -/

/-- The encodings of R179 and the code tables. -/
structure EncodedAsStated : Prop where
  /-- Numbers: high byte first, in one, two and four bytes, two's complement where signed. -/
  numbers : (∀ n, u8 n = [BitVec.ofNat 8 n]) ∧
    (∀ n, u16 n = [BitVec.ofNat 8 (n / 256), BitVec.ofNat 8 n]) ∧
    (∀ n, u32 n = [BitVec.ofNat 8 (n / 16777216), BitVec.ofNat 8 (n / 65536),
      BitVec.ofNat 8 (n / 256), BitVec.ofNat 8 n]) ∧
    ∀ x, i32 x = u32 (x % 4294967296).toNat
  /-- Flags and optional fields: a presence byte, and zeros for an absent value. -/
  optional : flagByte true = [1] ∧ flagByte false = [0] ∧ opt8 none = [0, 0] ∧
    opt16 none = [0, 0, 0] ∧ (∀ n, opt8 (some n) = 1 :: u8 n) ∧ ∀ n, opt16 (some n) = 1 :: u16 n
  /-- Trunk, lots, gates, crusher, routing, bins (R50, R61, R66). -/
  plant : [LotState.pending, .reserved, .loading, .inTransit, .delivered, .cancelled, .lost,
      .removed].map LotState.code = [0, 1, 2, 3, 4, 5, 6, 7] ∧
    [GateState.closed, .isOpen, .closing, .fault].map GateState.code = [0, 1, 2, 3] ∧
    [CrusherState.running, .reversing, .probing, .blocked].map CrusherState.code = [0, 1, 2, 3] ∧
    [RoutingState.settled, .moving, .fault].map RoutingState.code = [0, 1, 2] ∧
    [BinState.inService, .full, .closing, .released, .absent, .presentWait].map BinState.code =
      [0, 1, 2, 3, 4, 5] ∧
    [Mode.crush, .bypass].map Mode.code = [0, 1]
  /-- Samples, filter units, selection, arbiter. -/
  supply : [RangeState.noValue, .inRange, .outOfRange].map RangeState.code = [0, 1, 2] ∧
    [PairState.agree, .disagree].map PairState.code = [0, 1] ∧
    [PairMode.both, .singleA, .singleB, .none].map PairMode.code = [0, 1, 2, 3] ∧
    [UnitState.offline, .online, .flushWait, .flushReady, .flushing, .fault].map UnitState.code =
      [0, 1, 2, 3, 4, 5] ∧
    [CheckOutcome.exempt, .passed, .failed, .hold].map CheckOutcome.code = [0, 1, 2, 3] ∧
    [ShedState.idle, .settling, .exhausted].map ShedState.code = [0, 1, 2] ∧
    [Phase.a, .b, .c].map Phase.code = [0, 1, 2] ∧
    [ValveKind.flood, .hp].map valveKindCode = [0, 1] ∧
    [Origin.request, .restore].map Origin.code = [0, 1] ∧
    [Bound.total, .polish, .hold, .shed, .lowlow].map Bound.code = [0x21, 0x22, 0x23, 0x24, 0x25]
  /-- Cells and the part. -/
  cells : [CellState.disabled, .idle, .running, .paused].map CellState.code = [0, 1, 2, 3] ∧
    [LinkState.unlinked, .linked, .lost].map LinkState.code = [0, 1, 2] ∧
    [PartState.config, .operating].map PartState.code = [0, 1]

/-- A valve as READ_CELL gives it (R147). -/
def valveImage (v : Valve) : List Byte :=
  u16 v.commanded ++ u16 v.counted ++
  (match v.timer with
    | .stopped => [0, 0, 0]
    | .running ms => 1 :: u16 ms) ++
  match v.pending with
  | none => List.replicate 9 0
  | some p => 1 :: (u16 p.value ++ u32 p.stamp ++ u8 p.origin.code ++ u8 p.bound.code)

/-- A probe pair as READ_BALANCE gives it (R86). -/
def pairImage (p : Pair) : List Byte :=
  u8 p.state.code ++ u16 p.used ++ flagByte p.held ++ u8 p.mode.code ++ u8 p.count ++
  flagByte p.seen ++ u16 p.maxDiff

/-- What the images of the trunk, the lots, the bins and the filter bank hold. -/
structure State.PlantImages (s : State) : Prop where
  /-- READ_MAP (R17). -/
  map : ∀ a n, s.mapContent a n = u8 s.trunk.head ++ u16 s.trunk.belt ++
    flagByte s.trunk.registered ++
    u8 ((if s.trunk.halt.station then 1 else 0) + (if s.trunk.halt.jam then 2 else 0) +
      (if s.trunk.halt.blocked then 4 else 0) + (if s.trunk.halt.routing then 8 else 0) +
      (if s.trunk.halt.bin then 16 else 0) + (if s.trunk.halt.overload then 32 else 0)) ++
    u8 s.trunk.overloadCount ++ u8 s.trunk.config.carry ++
    (List.range n).flatMap fun k => u8 (a + k) ++
      match s.trunk.flight (a + k) with
      | .empty => [0, 0, 0]
      | .reserved x => [1, 1, BitVec.ofNat 8 x.1]
      | .loaded x => [2, 1, BitVec.ofNat 8 x.1]
      | .untracked => [3, 0, 0]
  /-- READ_LOTS (R47): with no lot in use at or above the id, and with the lowest such lot. -/
  lots : ∀ (n : Nat) (front : List Byte),
    front = u8 ((List.finRange 32).filter fun i => (s.intake.lots[i]).isSome).length ++
      flagByte s.intake.held.isSome ++ u32 s.intake.stamp →
    ∀ back : List Byte, back = s.outlets.toList.flatMap (fun x => u8 x.gate.code ++
      flagByte x.timer.isRunning ++ flagByte x.spill ++ u16 x.closeTime) →
    ((∀ i : Fin 32, n ≤ i.1 → s.intake.lots[i] = none) →
      s.lotsContent n = front ++ List.replicate 26 0 ++ back) ∧
    ∀ (i : Fin 32) (l : Lot), n ≤ i.1 → s.intake.lots[i] = some l →
      (∀ j : Fin 32, n ≤ j.1 → j.1 < i.1 → s.intake.lots[j] = none) →
      s.lotsContent n = front ++ (1 :: (u8 i.1 ++
        (match l.source with
          | .cell c => u8 c.1
          | .flush => u8 8) ++
        u8 l.flights ++ u16 l.declared ++ opt16 l.actual ++ u8 l.target.bin.1 ++
        u8 l.target.mode.code ++ u8 l.purge ++ u8 l.jamAllowance ++
        (match l.rank with
          | .priority p => u8 p
          | .service => u8 8) ++
        u32 l.stamp ++ flagByte l.notify ++ u8 l.state.code ++
        u8 ((if l.mixed then 1 else 0) + (if l.short then 2 else 0) +
          (if l.spilledInto then 4 else 0) + (if l.contaminated then 8 else 0)) ++
        flagByte l.firstEntered ++ opt8 (s.trunk.lotOffsets i).head? ++
        opt8 (s.trunk.lotOffsets i).getLast?)) ++ back
  /-- READ_BINS (R72). -/
  bins : s.binsContent = ((List.finRange 5).flatMap fun b : Fin 5 =>
      u8 s.bins[b].state.code ++ u16 s.delivery.capacity[b] ++ u32 s.bins[b].fill ++
      u32 s.bins[b].committed ++ flagByte s.bins[b].unexpected ++
      flagByte (decide (s.bins[b].state = .released))) ++
    s.delivery.capacity.toList.flatMap u16 ++ u16 s.delivery.jamThreshold ++
    u8 s.delivery.jamSets ++ u8 s.delivery.untrackedAllowance ++ u16 s.delivery.reverseTime ++
    u16 s.delivery.probeTime ++ u16 s.delivery.routingTime ++ u8 s.crusher.state.code ++
    u8 s.crusher.jamCount ++ flagByte s.crusher.untracked ++ u8 s.crusher.allowance ++
    (match s.crusher.drain with
      | .stopped => [0, 0, 0, 0, 0]
      | .running ms => 1 :: u32 ms
      | .paused ms => 2 :: u32 ms) ++
    flagByte s.crusher.reverse.isRunning ++ flagByte s.crusher.probe.isRunning ++
    u8 s.crusher.residents.length ++ (s.crusher.residents.flatMap fun r =>
      u8 r.lot.1 ++ u8 r.entered ++ flagByte r.crusherPath ++ u8 r.position.bin.1 ++
      u8 r.position.mode.code ++ flagByte r.stalled) ++
    u8 s.routing.position.bin.1 ++ u8 s.routing.position.mode.code ++ u8 s.routing.state.code ++
    flagByte s.routing.timer.isRunning
  /-- READ_FILTER (R103). -/
  filter : s.filterContent = ((List.finRange 6).flatMap fun u : Fin 6 =>
      u8 s.filter.units[u].state.code ++ flagByte s.filter.units[u].forced ++
      flagByte s.filter.units[u].postCheck ++
      flagByte (decide (s.filter.units[u].state = .flushing)) ++
      flagByte s.inputs.flushDone[u] ++
      (match s.filter.units[u].timer with
        | .stopped => [0, 0, 0, 0, 0]
        | .running ms => 1 :: u32 ms) ++
      u16 s.filter.units[u].config.ratedFlow ++ u16 s.filter.units[u].config.dpClean ++
      u16 s.filter.units[u].config.dpMax ++ u16 s.filter.units[u].config.dpFlush ++
      u16 s.filter.units[u].config.flushTime ++ u16 (s.unitDp u).value ++
      flagByte (s.unitDp u).held) ++
    (match s.filter.slot with
      | none => [0, 0]
      | some u => [1, BitVec.ofNat 8 u.1]) ++
    u32 ((List.finRange 32).map fun i : Fin 32 => if s.filter.begun[i] then 2 ^ i.1 else 0).sum ++
    (match s.filter.lastCheck with
      | none => List.replicate 8 0
      | some x => 1 :: (u8 x.unit.1 ++ u8 x.outcome.code ++
        match x.headroom with
        | none => [0, 0, 0, 0, 0]
        | some h => 1 :: i32 h)) ++
    u8 s.filter.sludge.flights ++ u16 s.filter.sludge.volume ++ u16 s.filter.sludge.closeTime

/-- What the images of the balance, the cells, the stores and the ports hold. -/
structure State.SupplyImages (s : State) : Prop where
  /-- READ_BALANCE, the sample receiver's part (R86). -/
  samples : s.samples.bytes = s.samples.lastSet.readings.toList.flatMap u16 ++
    u16 ((List.finRange 14).map fun c : Fin 14 =>
      if s.samples.lastSet.valid[c] then 2 ^ c.1 else 0).sum ++
    (s.samples.channels.toList.flatMap fun x =>
      u16 x.value ++ flagByte x.held ++ u8 x.range.code) ++
    pairImage s.samples.clean ++ pairImage s.samples.dirty ++ flagByte s.samples.stale ++
    flagByte s.samples.timer.isRunning ++
    (s.samples.config.spans.toList.flatMap fun x => u16 x.lo ++ u16 x.hi) ++
    u16 s.samples.config.staleness ++ u16 s.samples.config.cleanTolerance ++
    u16 s.samples.config.dirtyTolerance ++ flagByte s.samples.config.cleanAutoClear ++
    flagByte s.samples.config.dirtyAutoClear
  /-- READ_BALANCE, the balance unit's part (R121). -/
  balance : s.balanceContent = s.samples.bytes ++ (s.balance.record.avail.toList.flatMap u16 ++
    u16 s.balance.record.primary ++ u16 s.balance.record.polish ++ u32 s.balance.record.vClean ++
    u32 s.balance.record.vDirty ++ i32 s.balance.record.cleanPart ++
    i32 s.balance.record.dirtyPart ++ i32 s.balance.record.credit ++ u16 s.balance.record.total ++
    u32 s.balance.record.sumFlood ++ u32 s.balance.record.sumHp ++ i32 s.balance.record.hTotal ++
    i32 s.balance.record.hPolish ++ flagByte s.balance.record.deficit ++
    flagByte s.balance.record.polishBound ++ flagByte s.balance.record.heldInput ++
    u16 s.balance.evalCount ++
    [s.balance.sticky.range, s.balance.sticky.invalid, s.balance.sticky.overflow,
      s.balance.sticky.depleted, s.balance.masked.range, s.balance.masked.invalid,
      s.balance.masked.overflow, s.balance.masked.depleted, s.balance.hold].flatMap flagByte ++
    s.balance.markers.toList.flatMap flagByte ++ u16 s.balance.config.cleanArea ++
    u16 s.balance.config.dirtyArea ++ u32 s.balance.config.vLow ++ u32 s.balance.config.vLowLow ++
    u32 s.balance.config.vDirtyHigh ++ u16 s.balance.config.horizon ++ u16 s.balance.config.margin)
  /-- READ_CELL (R147, R176). -/
  cell : ∀ c : Fin 8, s.cellContent c = valveImage (s.valve c .flood) ++ valveImage (s.valve c .hp) ++
    (u8 s.grants.shed.state.code ++ u16 s.grants.shed.stepCount ++
    (match s.grants.shed.current with
      | none => List.replicate 8 0
      | some x => 1 :: (u8 x.cell.1 ++ u8 (valveKindCode x.kind) ++ u8 x.phase.code ++
        u16 x.before ++ u16 x.value)) ++
    flagByte s.grants.shed.timer.isRunning ++ flagByte s.grants.lowlow ++
    flagByte s.grants.hpFault ++ u8 s.grants.hpCount ++ flagByte s.grants.floodFault ++
    u8 s.grants.floodCount ++ u32 s.grants.stamp ++ u16 s.grants.supply.settleTime ++
    u16 s.grants.supply.hpLow ++ u16 s.grants.supply.floodLow) ++
    (flagByte s.cells[c].config.enabled ++ u8 s.cells[c].config.outletOffset ++
    u16 s.cells[c].config.closeTime ++ u16 s.cells[c].config.floodMax ++
    u16 s.cells[c].config.hpMax ++ u16 s.cells[c].config.floor ++
    u16 s.cells[c].config.linkTimeout ++ u8 s.cells[c].state.code ++ u8 s.cells[c].link.code ++
    (match s.cells[c].linkTimer with
      | .stopped => [0, 0, 0]
      | .running ms => 1 :: u16 ms) ++
    flagByte s.cells[c].restored ++
    (match s.cells[c].active with
      | none => [0, 0]
      | some p => [1, BitVec.ofNat 8 p.1]) ++
    u8 s.cells[c].stack.length ++ (s.cells[c].stack.flatMap fun p => u8 p.1) ++
    u16 s.cells[c].working.flood ++ u16 s.cells[c].working.hp ++ u16 s.cells[c].working.lots ++
    u32 s.cells[c].working.volume ++ s.cells[c].aux.toList ++
    match s.cells[c].facts with
    | none => List.replicate 8 0
    | some f => 1 :: (u8 f.target.bin.1 ++ u8 f.target.mode.code ++ u8 f.purge ++
      u8 f.jamAllowance ++ flagByte f.hpPermitted ++ u8 f.maxFlights ++ u8 f.priority))
  /-- READ_PROFILE (R161): DEFINITION, INITIAL, SAVE and MEMORY. -/
  profile : ∀ p : Fin 64,
    (s.profiles.profiles[p] = none → s.profileContent p 0 0 = List.replicate 17 0 ∧
      s.profileContent p 1 0 = List.replicate 19 0 ∧ s.profileContent p 2 0 = List.replicate 20 0) ∧
    (∀ x, s.profiles.profiles[p] = some x →
      s.profileContent p 0 0 = 1 :: (u8 x.group.1 ++ u8 x.recipeIndex ++ u8 x.priority ++
        flagByte x.keep ++ flagByte x.presetStart.isSome ++ opt16 x.presetStart ++
        (match x.owner with
          | none => [0, 0]
          | some c => [1, BitVec.ofNat 8 c.1]) ++
        flagByte x.saveValid ++
        match s.profiles.extents[p] with
        | none => [0, 0, 0, 0, 0]
        | some e => 1 :: (u16 e.first ++ u16 e.last)) ∧
      s.profileContent p 1 0 = 1 :: (u16 x.initial.flood ++ u16 x.initial.hp ++
        u16 x.initial.lots ++ u32 x.initial.volume ++ x.initial.aux.toList) ∧
      s.profileContent p 2 0 = 1 :: (u16 x.save.flood ++ u16 x.save.hp ++ u16 x.save.lots ++
        u32 x.save.volume ++ x.save.aux.toList ++ flagByte x.saveValid)) ∧
    ∀ a, s.profileContent p 3 a = (List.range (min 32 (512 - a))).map fun k =>
      Memory.read s.profiles.memory (a + k)
  /-- READ_RECIPE (R161): a group, and a recipe with the groups whose run includes it. -/
  recipes : (∀ g : Fin 16, s.recipes.groups[g].bytes = u8 s.recipes.groups[g].base ++
      u8 s.recipes.groups[g].count ++ flagByte (decide (0 < s.recipes.groups[g].count))) ∧
    ∀ r : Fin 128, s.recipes.recipeContent r = u8 s.recipes.recipes[r].bin.1 ++
      u8 s.recipes.recipes[r].mode.code ++ u8 s.recipes.recipes[r].purge ++
      u8 s.recipes.recipes[r].jamAllowance ++ flagByte s.recipes.recipes[r].hpPermitted ++
      u8 s.recipes.recipes[r].maxFlights ++
      u8 ((List.finRange 16).filter fun g : Fin 16 => decide (s.recipes.groups[g].base ≤ r.1 ∧
        r.1 < s.recipes.groups[g].base + s.recipes.groups[g].count)).length ++
      ((List.finRange 16).filter fun g : Fin 16 => decide (s.recipes.groups[g].base ≤ r.1 ∧
        r.1 < s.recipes.groups[g].base + s.recipes.groups[g].count)).flatMap fun g => u8 g.1
  /-- READ_PORTS (R189, R197). -/
  ports : s.portsContent = ((List.finRange 8).flatMap fun c : Fin 8 =>
      u8 (if s.links.rx[rxIndex (.cell c)].state = .hunt then 0 else 1) ++
      flagByte s.links.rx[rxIndex (.cell c)].framingSeen ++
      flagByte s.links.tx[cellTx c].overrun ++ u16 s.links.rx[rxIndex (.cell c)].wellFormed ++
      u16 s.links.rx[rxIndex (.cell c)].dropped ++ flagByte s.links.tx[cellTx c].sending.isSome ++
      u8 s.links.tx[cellTx c].replies.length ++ u8 s.links.notices[c].length) ++
    (u8 (if s.links.rx[(8 : Fin 10)].state = .hunt then 0 else 1) ++
      flagByte s.links.rx[(8 : Fin 10)].framingSeen ++ flagByte s.links.tx[(8 : Fin 9)].overrun ++
      u16 s.links.rx[(8 : Fin 10)].wellFormed ++ u16 s.links.rx[(8 : Fin 10)].dropped ++
      flagByte s.links.tx[(8 : Fin 9)].sending.isSome ++
      u8 s.links.tx[(8 : Fin 9)].replies.length) ++
    (u8 (if s.links.rx[(9 : Fin 10)].state = .hunt then 0 else 1) ++
      flagByte s.links.rx[(9 : Fin 10)].framingSeen ++ u16 s.links.rx[(9 : Fin 10)].wellFormed ++
      u16 s.links.rx[(9 : Fin 10)].dropped) ++
    u8 s.part.code ++ ([AlertSource.shed, .blocked, .jam, .gateFault, .routingFault, .bin,
      .filterFault, .pair, .exception, .linkLost, .registration, .samplesStale, .hpSupply,
      .floodSupply, .overload].flatMap fun a => flagByte s.plant.enables[a.index] ++
        flagByte (s.alertActive a) ++ flagByte s.plant.flags[a.index]) ++
    flagByte s.alertLine

/-! ### Properties that every step keeps -/

/-- The preset memory is in canonical form and lists no address above 511 (R153). -/
def State.memoryOk (s : State) : Bool :=
  Memory.wf s.profiles.memory && s.profiles.memory.all fun x => decide (x.1 < presetSize)

/-- The head index, the belt counter and the trunk configuration are in range (R1, R2, R7). -/
def State.trunkOk (s : State) : Bool :=
  decide (s.trunk.head < 256) && decide (s.trunk.belt < s.trunk.config.beltLength) &&
    trunkConfigOk s.trunk.config

/-- No valve's counted grant is below its commanded grant (R124). -/
def State.valvesOk (s : State) : Prop :=
  ∀ (c : Fin 8) (k : ValveKind), (s.valve c k).commanded ≤ (s.valve c k).counted

/-- Every pending request asks for more than its valve's commanded grant (R127, R129, R137). -/
def State.requestsOk (s : State) : Prop :=
  ∀ (c : Fin 8) (k : ValveKind) (p : PendingRequest), (s.valve c k).pending = some p →
    (s.valve c k).commanded < p.value

/-- In CONFIG the flight map is wholly UNTRACKED, the lot table is empty and no sludge request is
held (R6, R193). -/
def State.configOk (s : State) : Prop :=
  s.part = .config →
    (∀ i : Fin 256, s.trunk.map[i] = .untracked) ∧ (∀ i : Fin 32, s.intake.lots[i] = none) ∧
      s.intake.held = none

/-- Every reply queue holds at most four replies (R181). -/
def State.queuesOk (s : State) : Prop := ∀ p : Fin 9, s.links.tx[p].replies.length ≤ 4

/-- No transmitter is IDLE with something to send (R188). -/
def State.sendersOk (s : State) : Prop :=
  ∀ p : Fin 9, s.links.tx[p].sending = none →
    s.links.tx[p].replies = [] ∧
      ∀ h : p.1 < 8, s.mayNotify ⟨p.1, h⟩ → s.links.notices[(⟨p.1, h⟩ : Fin 8)] = []

/-- HOLD is set exactly while some sticky flag is set whose exception is unmasked (R118). -/
def State.holdOk (s : State) : Prop :=
  s.balance.hold = (s.balance.sticky.without s.balance.masked).any

/-- A latched alert flag is set while its source is active, and a live one follows its source
(R195). -/
def State.flagsOk (s : State) : Prop :=
  ∀ a : AlertSource,
    if s.isLatched a then (s.alertActive a → s.plant.flags[a.index] = true)
    else s.plant.flags[a.index] = s.alertActive a

/-- The output lines are those the state shows. -/
def State.linesOk (s : State) : Prop := s.outputs = s.lines

/-- Every cell's outlet offset is one that R164 takes: 8 + 6c at power-on, and what an accepted
WRITE_CELL_CONFIG gives. -/
def State.outletsOk (s : State) : Prop :=
  ∀ c : Fin 8, 4 ≤ s.cells[c].config.outletOffset ∧ s.cells[c].config.outletOffset ≤ 191

/-- No lot has two entries in the resident list (R52). -/
def State.residentsOk (s : State) : Prop := (s.crusher.residents.map Resident.lot).Nodup

/-- A sludge lot that has begun to load is among the begun sludge lots (R96, R97). -/
def State.begunOk (s : State) : Prop :=
  ∀ (i : Fin 32) (l : Lot), s.intake.lots[i] = some l → l.source = .flush →
    (l.state = .loading ∨ l.state = .inTransit) → s.filter.begun[i] = true

/-- Flights, lots, gates and jobs agree (R21, R34 to R39, R163). -/
structure State.LotsOk (s : State) : Prop where
  /-- A RESERVED flight names a RESERVED lot whose outlet is below it, or a LOADING lot whose outlet
  is at it or below it. -/
  flights : ∀ d x, d < s.trunk.config.carry → s.trunk.flight d = .reserved x →
    ∃ l, s.intake.lots[x] = some l ∧ ((l.state = .reserved ∧ s.outletOffset l.source.outlet < d) ∨
      (l.state = .loading ∧ s.outletOffset l.source.outlet ≤ d))
  /-- A source has one open lot at most. -/
  one : ∀ (i j : Fin 32) (l m : Lot), s.intake.lots[i] = some l → s.intake.lots[j] = some m →
    l.state.isOpen = true → m.state.isOpen = true → l.source = m.source → i = j
  /-- An open lot is LOADING exactly while its gate is OPEN, and not RESERVED at a gate in FAULT. -/
  gates : ∀ (i : Fin 32) (l : Lot), s.intake.lots[i] = some l → l.state.isOpen = true →
    (l.state = .loading ↔ s.outlets[l.source.outlet].gate = .isOpen) ∧
    (l.state = .reserved → s.outlets[l.source.outlet].gate ≠ .fault)
  /-- A gate is OPEN for a LOADING lot alone. -/
  served : ∀ o : Fin 9, s.outlets[o].gate = .isOpen →
    ∃ (i : Fin 32) (l : Lot), s.intake.lots[i] = some l ∧ l.state = .loading ∧ l.source.outlet = o
  /-- A gate timer runs at a CLOSING gate alone. -/
  timers : ∀ o : Fin 9, s.outlets[o].timer.isRunning = true → s.outlets[o].gate = .closing
  /-- A cell with an open lot has a job. -/
  jobs : ∀ (i : Fin 32) (l : Lot) (c : Fin 8), s.intake.lots[i] = some l → l.state.isOpen = true →
    l.source = .cell c → s.cells[c].state = .running ∨ s.cells[c].state = .paused
  /-- A cell that is not DISABLED is enabled. -/
  enabled : ∀ c : Fin 8, s.cells[c].state ≠ .disabled → s.cells[c].config.enabled = true
  /-- In CONFIG every gate is CLOSED, its timer stopped. -/
  config : s.part = .config →
    ∀ o : Fin 9, s.outlets[o].gate = .closed ∧ s.outlets[o].timer = .stopped

end Sys2Proof.Machine
end

