-- ==== Sys2Proof/Certificates/Slice0/Obligations.lean ====
section
/-! DEFINITION. The statements for the provers, one Prop each; OBLIGATIONS.json lists them. -/

open Sys2Proof Sys2Proof.Machine

/-! ### The machine -/

/-- Tier 1, derived. A step takes the command at the front of the queue and answers its outcome on
the state with the queue's rest. -/
def Obligations.StepRunsFrontCommand : Prop :=
  ∀ (c : Instr) (rest : List Instr) (s : State),
    step (s.withPending (c :: rest)) = exec c (s.withPending rest)

/-- Tier 2, derived. The model's choice (log 1, log 2): a step on an empty queue lets one
millisecond pass where no timer has run down, and every running timer has one millisecond less;
otherwise it takes the expiry of the one timer that has run down to 0, and where several have, one of
them, advancing the free counter. -/
def Obligations.EmptyQueueStep : Prop :=
  ∀ (s : State) (less : Timer → Timer), s.pending = [] → less .stopped = .stopped →
    (∀ ms, less (.running ms) = .running (ms - 1)) →
    (∀ c, c ∈ s.dueTimers ↔ s.hasRunDown c) ∧ s.dueTimers.Nodup ∧
    (s.dueTimers = [] → step s = .next { s with
      outlets := s.outlets.map fun x => { x with timer := less x.timer }
      crusher := { s.crusher with
        drain := match s.crusher.drain with
          | .running ms => .running (ms - 1)
          | x => x
        reverse := less s.crusher.reverse
        probe := less s.crusher.probe }
      routing := { s.routing with timer := less s.routing.timer }
      samples := { s.samples with timer := less s.samples.timer }
      filter := { s.filter with
        units := s.filter.units.map fun x => { x with timer := less x.timer } }
      grants := { s.grants with
        valves := s.grants.valves.map fun v =>
          ⟨{ v.flood with timer := less v.flood.timer }, { v.hp with timer := less v.hp.timer }⟩
        shed := { s.grants.shed with timer := less s.grants.shed.timer } }
      cells := s.cells.map fun x => { x with linkTimer := less x.linkTimer }
      links := { s.links with rx := s.links.rx.map fun r => { r with gap := less r.gap } } }) ∧
    (∀ c, s.dueTimers = [c] → step s = exec c s) ∧
    (∀ c d rest, s.dueTimers = c :: d :: rest →
      ∃ e ∈ c :: d :: rest, step s = exec e (s.withFreeCount (s.freeCount + 1)))

/-- Tier 2, derived (that POWER_ON as any other command keeps the queue and the free counter is the
model's choice, log 25; queue and free counter are the model's own, logs 21 and 2). Every command
answers a next state, and leaves the queue and the free counter as they are. -/
def Obligations.CommandsLeaveTheQueue : Prop :=
  ∀ (i : Instr) (s : State),
    ∃ t, exec i s = .next t ∧ t.pending = s.pending ∧ t.freeCount = s.freeCount

/-- Tier 1, stated (R18). POWER_ON from any state: the trunk tracker. -/
def Obligations.PowerOnTrunk : Prop :=
  ∀ s : State, ∃ t, exec .powerOn s = .next t ∧
    (∀ i : Fin 256, t.trunk.map[i] = .untracked) ∧ t.trunk.head = 0 ∧ t.trunk.belt = 0 ∧
    t.trunk.registered = false ∧ t.trunk.halt = ⟨true, false, false, false, false, false⟩ ∧
    t.trunk.overloadCount = 0 ∧ t.trunk.config = ⟨64, 160, 2, 2, 4, 1, 65535, 3, 40, 1000⟩ ∧
    t.part = .config ∧ t.outputs.conveyorRun = false ∧
    t.alertActive .registration = false ∧ t.alertActive .overload = false

/-- Tier 1, derived (that the input lines, the queue and the free counter are kept is the model's
choice, log 25). POWER_ON from any state: the values the power-on rules of every other block give
(R34, R48, R73, R76, R87, R89, R90, R104, R106, R122, R123, R148, R149, R150, R162, R164, R177,
R190, R197), the output lines they show, and the input lines, the queue and the free counter as they
were. -/
def Obligations.PowerOnValues : Prop :=
  ∀ s : State, ∃ t, exec .powerOn s = .next t ∧
    (∀ i : Fin 32, t.intake.lots[i] = none) ∧ t.intake.stamp = 0 ∧ t.intake.held = none ∧
    (∀ o : Fin 9, t.outlets[o] = ⟨.closed, .stopped, false, 800⟩) ∧
    t.crusher = ⟨.running, [], false, 3, .stopped, .stopped, .stopped, 0⟩ ∧
    t.routing = ⟨⟨4, .crush⟩, .moving, .stopped⟩ ∧
    t.delivery = ⟨#v[1000, 1000, 1000, 1000, 1000], 65535, 2, 3, 2000, 1500, 3000⟩ ∧
    (∀ b : Fin 5, t.bins[b] =
      ⟨if s.inputs.binPresent[b] then .presentWait else .absent, 0, 0, false⟩) ∧
    (∀ c : Fin 14, t.samples.channels[c] = ⟨0, true, .noValue⟩) ∧
    t.samples.clean = ⟨.agree, 0, true, .none, 0, false, 0⟩ ∧ t.samples.dirty = t.samples.clean ∧
    t.samples.stale = false ∧ t.samples.timer = .running 500 ∧
    (∀ c : Fin 14, t.samples.lastSet.readings[c] = 0 ∧ t.samples.lastSet.valid[c] = false) ∧
    t.samples.config = ⟨#v[⟨0, 1000⟩, ⟨0, 1000⟩, ⟨0, 1000⟩, ⟨0, 1000⟩, ⟨0, 1000⟩, ⟨0, 1000⟩, ⟨0, 4000⟩,
      ⟨0, 4000⟩, ⟨0, 4000⟩, ⟨0, 4000⟩, ⟨0, 65535⟩, ⟨0, 65535⟩, ⟨0, 1000⟩, ⟨0, 1000⟩], 500, 10, 10,
      false, false⟩ ∧
    (∀ u : Fin 6, t.filter.units[u] = ⟨.offline, false, false, .stopped, ⟨0, 0, 1000, 1000, 300⟩⟩) ∧
    t.filter.slot = none ∧ (∀ i : Fin 32, t.filter.begun[i] = false) ∧ t.filter.lastCheck = none ∧
    t.filter.sludge = ⟨2, 80, 800⟩ ∧
    t.balance.record = ⟨Vector.replicate 6 0, 0, 0, 0, 0, 0, 0, 0, 0, 0, 0, 0, 0, false, false, false⟩ ∧
    t.balance.evalCount = 0 ∧ t.balance.sticky = ⟨false, false, false, false⟩ ∧
    t.balance.masked = ⟨true, false, true, true⟩ ∧ t.balance.hold = false ∧
    (∀ c : Fin 8, t.balance.markers[c] = false) ∧
    t.balance.config = ⟨1000, 1000, 0, 0, 400000, 600, 200⟩ ∧
    (∀ c k, t.valve c k = ⟨0, 0, none, .stopped⟩) ∧ t.grants.shed = ⟨.idle, 0, none, .stopped⟩ ∧
    t.grants.stamp = 0 ∧ t.grants.lowlow = false ∧ t.grants.hpFault = false ∧
    t.grants.floodFault = false ∧ t.grants.hpCount = 0 ∧ t.grants.floodCount = 0 ∧
    t.grants.supply = ⟨1500, 0, 0⟩ ∧
    (∀ g : Fin 16, t.recipes.groups[g] = ⟨0, 0⟩) ∧
    (∀ r : Fin 128, t.recipes.recipes[r] = ⟨0, .crush, 15, 1, false, 1⟩) ∧
    (∀ p : Fin 64, t.profiles.profiles[p] = none ∧ t.profiles.extents[p] = none) ∧
    (∀ a, Memory.read t.profiles.memory a = 0) ∧
    (∀ c : Fin 8, t.cells[c].config = ⟨false, 8 + 6 * c.1, 800, 0, 0, 0, 2000⟩ ∧
      t.cells[c].state = .disabled ∧ t.cells[c].link = .unlinked ∧ t.cells[c].active = none ∧
      t.cells[c].stack = [] ∧ t.cells[c].working = ⟨0, 0, 0, 0⟩ ∧ t.cells[c].linkTimer = .stopped ∧
      t.cells[c].restored = false ∧ t.cells[c].facts = none ∧ ∀ k : Fin 8, t.cells[c].aux[k] = 0) ∧
    (∀ p : Fin 10, t.links.rx[p] = ⟨.hunt, .stopped, false, 0, 0⟩) ∧
    (∀ p : Fin 9, t.links.tx[p] = ⟨false, [], none⟩) ∧ (∀ c : Fin 8, t.links.notices[c] = []) ∧
    t.links.image = none ∧
    (∀ a : Fin 15, t.plant.enables[a] = false ∧ t.plant.flags[a] = false) ∧
    (∀ a : AlertSource, t.alertActive a = false) ∧ t.linesOk ∧ t.outputs.alert = false ∧
    t.outputs.crusherForward = false ∧ t.outputs.crusherReverse = false ∧
    t.outputs.routingPosition = ⟨4, .crush⟩ ∧
    t.inputs = s.inputs ∧ t.pending = s.pending ∧ t.freeCount = s.freeCount

/-- Tier 1, derived. The state after power-on has every property the invariants below keep. -/
def Obligations.ResetMeetsInvariants : Prop :=
  State.reset.memoryOk = true ∧ State.reset.trunkOk = true ∧ State.reset.valvesOk ∧
    State.reset.requestsOk ∧ State.reset.configOk ∧ State.reset.queuesOk ∧ State.reset.sendersOk ∧
    State.reset.holdOk ∧ State.reset.flagsOk ∧ State.reset.linesOk ∧ State.reset.outletsOk ∧
    State.reset.LotsOk ∧ State.reset.residentsOk ∧ State.reset.begunOk

/-! ### What every step keeps -/

/-- Tier 3, derived (R1, R2, R3, R7, R153, R164). Preset memory stays in its canonical form with no
address above 511; the head index stays below 256, the belt counter below N_belt, the trunk
configuration in range, every cell's outlet offset within 4 to 191. -/
def Obligations.StepKeepsTablesInRange : Prop :=
  ∀ s t : State, step s = .next t →
    (s.memoryOk = true → t.memoryOk = true) ∧ (s.trunkOk = true → t.trunkOk = true) ∧
    (s.outletsOk → t.outletsOk)

/-- Tier 3, derived (R118, R124, R127, R129, R137). No valve's counted grant falls below its
commanded grant; every pending request asks for more than its valve's commanded grant; HOLD is set
exactly while some sticky flag's exception is unmasked. -/
def Obligations.StepKeepsGrantsAndHold : Prop :=
  ∀ s t : State, step s = .next t →
    (s.valvesOk → t.valvesOk) ∧ (s.requestsOk → t.requestsOk) ∧ (s.holdOk → t.holdOk)

/-- Tier 3, derived (R3, R6, R21, R35 to R39, R52, R96, R97, R163, R193). In CONFIG the flight map stays
wholly UNTRACKED, the lot table empty and no sludge request held. No lot has two entries in the resident
list, and a sludge lot that has begun to load stays among the begun ones. Flights, lots, gates and jobs
stay in agreement: no RESERVED flight passes its outlet, a source has one open lot at most, a gate is
OPEN for a LOADING lot alone. -/
def Obligations.StepKeepsConfigEmpty : Prop :=
  (∀ s t : State, s.configOk → step s = .next t → t.configOk) ∧
  (∀ s t : State, s.residentsOk → step s = .next t → t.residentsOk) ∧
  (∀ s t : State, s.begunOk → step s = .next t → t.begunOk) ∧
  ∀ s t : State, s.trunkOk = true → s.outletsOk → s.configOk → s.LotsOk → step s = .next t →
    t.LotsOk

/-- Tier 3, derived (R181, R188). No reply queue exceeds four replies, and no transmitter stays IDLE
with something it may send. -/
def Obligations.StepKeepsSendersBusy : Prop :=
  ∀ s t : State, s.queuesOk ∧ s.sendersOk → step s = .next t → t.queuesOk ∧ t.sendersOk

/-- Tier 3, derived (R13, R14, R16, R34, R35, R37, R50, R61, R66, R88, R124, R163, R195; that lines and
flags are brought up to date once, at the end of an event, is the model's choice, log 4). What each
output line shows and when each alert source is active; every step keeps the lines those the state
shows, and every alert flag following or latching its source. -/
def Obligations.StepKeepsLinesAndFlags : Prop :=
  (∀ s : State, s.LinesShown ∧ s.SourcesShown) ∧
  ∀ s t : State, s.linesOk ∧ s.flagsOk → step s = .next t → t.linesOk ∧ t.flagsOk

/-! ### The trunk (chapter 1) -/

/-- Tier 1, stated (R7). The belt counter read as a signed drift. -/
def Obligations.DriftIsSigned : Prop :=
  ∀ t : Trunk, t.belt < t.config.beltLength →
    (t.belt ≤ t.config.beltLength / 2 → t.drift = t.belt) ∧
    (t.config.beltLength / 2 < t.belt → t.drift = (t.belt : Int) - t.config.beltLength) ∧
    -(t.config.beltLength : Int) < 2 * t.drift ∧ 2 * t.drift ≤ t.config.beltLength

/-- Tier 2, derived (R6). PITCH_EVENT in CONFIG: the map moves down one offset, UNTRACKED comes on
at the tail, the belt counter advances, and nothing else changes. -/
def Obligations.PitchInConfig : Prop :=
  ∀ s : State, s.part = .config → s.trunkOk = true → ∃ t, exec .pitchEvent s = .next t ∧
    t.trunk.head = (s.trunk.head + 1) % 256 ∧
    t.trunk.belt = (s.trunk.belt + 1) % s.trunk.config.beltLength ∧
    (∀ d, d + 1 < s.trunk.config.carry → t.trunk.flight d = s.trunk.flight (d + 1)) ∧
    t.trunk.flight (s.trunk.config.carry - 1) = .untracked ∧
    t.inner.withTrunk s.trunk = s.inner ∧
    { t.trunk with head := s.trunk.head, belt := s.trunk.belt, map := s.trunk.map } = s.trunk ∧
    Unasked s t ∧ Quiet s t

/-- Tier 2, derived (R3, R4, R5, R35 to R37, R41 to R44, R51 to R55, R62, R64, R65, R175; that a drain
timer restarted at 0 runs down within the pitch, and that R64 speaks of any material flight near the
crusher, is the model's choice, logs 8 and 30). PITCH_EVENT in OPERATING, whatever halts the conveyor:
head index and belt counter advance, every flight of the map moves down one offset, RESERVED becoming
LOADED under the OPEN gate of its LOADING lot and EMPTY becoming UNTRACKED under a spilling outlet, and
EMPTY comes on at the tail; what is EMPTY then the pass that follows may reserve. The flight at offset 0
is delivered to the crusher, the outlets that flights pass open their gates, load, or spill, with MIXED
marking and its spread; a lot that has loaded its last flight is IN_TRANSIT, counted in its cell's job,
and its gate closes. The routing unit examines the flights near the crusher: a move, ROUTING and BIN.
With no lot on the books, no sludge request held and every gate CLOSED the map's move is all of it but
the delivery and the examination. -/
def Obligations.PitchInOperating : Prop :=
  ∀ s : State, s.part = .operating → s.trunkOk = true → s.outletsOk → s.LotsOk → s.begunOk →
    ∃ t, exec .pitchEvent s = .next t ∧
    t.trunk.head = (s.trunk.head + 1) % 256 ∧
    t.trunk.belt = (s.trunk.belt + 1) % s.trunk.config.beltLength ∧
    t.part = s.part ∧ t.trunk.config = s.trunk.config ∧ t.trunk.registered = s.trunk.registered ∧
    t.samples = s.samples ∧ t.recipes = s.recipes ∧ t.delivery = s.delivery ∧ Unasked s t ∧
    Noticed s t ∧
    ((∀ i : Fin 32, s.intake.lots[i] = none) → s.intake.held = none →
      (∀ o : Fin 9, s.outlets[o].gate = .closed) →
        (∀ d, d + 1 < s.trunk.config.carry → t.trunk.flight d = s.trunk.flight (d + 1)) ∧
        t.trunk.flight (s.trunk.config.carry - 1) = .empty ∧ t.outlets = s.outlets ∧
        t.intake = s.intake) ∧
    PitchMoves s t ∧ PitchDelivers s t ∧ PitchLoads s t ∧ PitchSpills s t ∧
    RoutingExamined s.routing t

/-- Tier 2, derived (R1, R8, R9, R10, R11, R12, R13, R62; that R64 speaks of any material flight near the
crusher is the model's choice, log 30). HOME_MARK: the first mark registers; a drift of 0 confirms the
registration and changes nothing else; a positive drift within the tolerance moves the head index back
and the map up, the entries at the crusher end UNTRACKED, and the lots pushed off the tail are lost; a
negative one brings the head index forward by the pitches missed, one missed pitch being a pitch event
in full; a greater drift makes the carrying run UNTRACKED, loses every lot on it, and raises
REGISTRATION in OPERATING. What becomes of a LOST lot: flights, gate, crusher, commitment, notice,
record. After a positive drift the routing unit's examination is stated where no lost sludge lot calls
its flush off (R96), or every flight that names a lot names one of the table, as R1 has it. -/
def Obligations.HomeMark : Prop :=
  ∀ s : State, s.trunkOk = true →
    (s.trunk.registered = false →
      Does .homeMark s (s.withTrunk { s.trunk with belt := 0, registered := true })) ∧
    (s.trunk.registered = true → s.trunk.belt = 0 →
      Does .homeMark s (s.withTrunk { s.trunk with registration := false })) ∧
    (∀ lost : Fin 32 → Bool,
      (∀ id, lost id = true ↔ s.intake.lots[id] ≠ none ∧ ∃ d, d < s.trunk.config.carry ∧
        s.trunk.config.carry ≤ d + s.trunk.belt ∧ (s.trunk.flight d).lot? = some id) →
      s.trunk.registered = true → 0 < s.trunk.drift →
      s.trunk.drift ≤ s.trunk.config.tolerance → ∃ t, exec .homeMark s = .next t ∧
        t.trunk.head = (s.trunk.head + (256 - s.trunk.belt)) % 256 ∧ t.trunk.belt = 0 ∧
        t.trunk.registered = true ∧ t.trunk.registration = false ∧ t.inputs = s.inputs ∧
        Unasked s t ∧ RunMovedUp s t s.trunk.belt lost ∧ LotsLost s t lost ∧
        (s.part = .operating → s.outletsOk →
          ((∀ id l, lost id = true → s.intake.lots[id] = some l → l.source = .flush →
              s.filter.begun[id] = true) ∨
            ∀ d x, d < s.trunk.config.carry → (s.trunk.flight d).lot? = some x →
              s.intake.lots[x] ≠ none) → RoutingExamined s.routing t)) ∧
    (s.trunk.registered = true → s.trunk.drift < 0 →
      -s.trunk.drift ≤ s.trunk.config.tolerance → ∃ t, exec .homeMark s = .next t ∧
        t.trunk.head = (s.trunk.head + s.trunk.drift.natAbs) % 256 ∧ t.trunk.belt = 0 ∧
        t.trunk.registered = true ∧ t.trunk.registration = false ∧ t.inputs = s.inputs ∧
        Unasked s t) ∧
    (s.trunk.registered = true → s.trunk.drift = -1 → 1 ≤ s.trunk.config.tolerance →
      exec .homeMark s = exec .pitchEvent (s.withTrunk { s.trunk with registration := false })) ∧
    (∀ lost : Fin 32 → Bool,
      (∀ id, lost id = true ↔ s.intake.lots[id] ≠ none ∧ ∃ d, d < s.trunk.config.carry ∧
        (s.trunk.flight d).lot? = some id) →
      s.trunk.registered = true → (s.trunk.config.tolerance : Int) < |s.trunk.drift| →
      ∃ t, exec .homeMark s = .next t ∧ t.trunk.head = s.trunk.head ∧ t.trunk.belt = 0 ∧
        t.trunk.registered = true ∧
        t.trunk.registration = (s.trunk.registration || s.part == .operating) ∧
        (∀ d, d < s.trunk.config.carry → t.trunk.flight d = .untracked) ∧
        t.inputs = s.inputs ∧ Unasked s t ∧ LotsLost s t lost ∧
        (s.part = .operating → s.outletsOk → RoutingExamined s.routing t))

/-- Tier 1, derived (R15; that the row is a whole frame and discards the bytes of another frame in
progress on the port is the model's choice, log 5). TRUNK_STOP sets STATION; TRUNK_RUN removes
STATION and OVERLOAD and sets the overload count to 0; both are refused NOT_READY in CONFIG. -/
def Obligations.TrunkStopAndRun : Prop :=
  ∀ s : State, s.roomAt stationTx →
    (s.part = .config →
      StationDoes (.trunkStop .station) 0x52 (.refused .notReady) [] s s ∧
      StationDoes (.trunkRun .station) 0x53 (.refused .notReady) [] s s) ∧
    (s.part = .operating →
      StationDoes (.trunkStop .station) 0x52 .accepted [] s
        (s.withTrunk { s.trunk with halt := { s.trunk.halt with station := true } }) ∧
      StationDoes (.trunkRun .station) 0x53 .accepted [] s
        (s.withTrunk { s.trunk with
          halt := { s.trunk.halt with station := false, overload := false }
          overloadCount := 0 }))

/-! ### Samples (chapters 4, 1, 3, 5, 6) -/

/-- Tier 2, derived (R75, R77 to R81). SAMPLE_SET in either part state: the set replaces the last
one, every channel is conditioned on its own, the two probe pairs are checked, the stale flag is
cleared and the staleness timer restarted; configurations, stores, cells and inputs are as they
were. -/
def Obligations.SampleSetTaken : Prop :=
  ∀ (set : SampleSet) (s : State), ∃ t, exec (.sampleSet set) s = .next t ∧ Counted .sample s t ∧
    (∀ p, t.owedReplies p = s.owedReplies p) ∧ Noticed s t ∧
    t.samples.lastSet = set ∧ t.samples.stale = false ∧
    t.samples.timer = .running s.samples.config.staleness ∧ t.samples.config = s.samples.config ∧
    (∀ c : Fin 14,
      (set.valid[c] = true ∧ s.samples.config.spans[c].lo ≤ set.readings[c] ∧
          set.readings[c] ≤ s.samples.config.spans[c].hi →
        t.samples.channels[c] = ⟨set.readings[c], false, .inRange⟩) ∧
      (¬(set.valid[c] = true ∧ s.samples.config.spans[c].lo ≤ set.readings[c] ∧
          set.readings[c] ≤ s.samples.config.spans[c].hi) →
        t.samples.channels[c] = ⟨s.samples.channels[c].value, true, .outOfRange⟩)) ∧
    t.part = s.part ∧ t.recipes = s.recipes ∧ t.profiles = s.profiles ∧ t.cells = s.cells ∧
    t.delivery = s.delivery ∧ t.inputs = s.inputs ∧ t.trunk.config = s.trunk.config ∧
    t.balance.config = s.balance.config ∧ t.balance.masked = s.balance.masked ∧
    t.grants.supply = s.grants.supply ∧ t.plant.enables = s.plant.enables ∧
    PairAfter t.samples.channels[(6 : Fin 14)] t.samples.channels[(7 : Fin 14)]
      (min t.samples.channels[(6 : Fin 14)].value t.samples.channels[(7 : Fin 14)].value)
      s.samples.config.cleanTolerance s.samples.config.cleanAutoClear s.samples.clean
      t.samples.clean ∧
    PairAfter t.samples.channels[(8 : Fin 14)] t.samples.channels[(9 : Fin 14)]
      (max t.samples.channels[(8 : Fin 14)].value t.samples.channels[(9 : Fin 14)].value)
      s.samples.config.dirtyTolerance s.samples.config.dirtyAutoClear s.samples.dirty
      t.samples.dirty

/-- Tier 2, derived (R16, R57, R58, R142, R143; that the jam count and the header counts go on from
their kept values at the first set after staleness is the model's choice, log 36). SAMPLE_SET:
overload detection on channel 11, in OPERATING only; the jam count on channel 10, in OPERATING with
the crusher RUNNING or PROBING only; a jam charged to the lot of the last entry that went through the
crusher, or without one to the untracked material, which reverses the crusher while allowance is left
and blocks it when none is; and the header pressures on channels 12 and 13 with the supply faults, in
OPERATING only. -/
def Obligations.SampleSetDetectsOverloadAndJam : Prop :=
  (∀ (set : SampleSet) (s : State), ∃ t, exec (.sampleSet set) s = .next t ∧
    (s.part = .config → t.trunk.overloadCount = s.trunk.overloadCount ∧
      t.trunk.halt.overload = s.trunk.halt.overload) ∧
    (s.part = .operating →
      (t.samples.channels[(11 : Fin 14)].held = true →
        t.trunk.overloadCount = s.trunk.overloadCount ∧
        t.trunk.halt.overload = s.trunk.halt.overload) ∧
      (t.samples.channels[(11 : Fin 14)].held = false →
        s.trunk.config.overloadLimit ≤ t.samples.channels[(11 : Fin 14)].value →
          t.trunk.overloadCount = min s.trunk.config.overloadSets (s.trunk.overloadCount + 1) ∧
          t.trunk.halt.overload = (s.trunk.halt.overload ||
            decide (s.trunk.config.overloadSets ≤ s.trunk.overloadCount + 1))) ∧
      (t.samples.channels[(11 : Fin 14)].held = false →
        t.samples.channels[(11 : Fin 14)].value < s.trunk.config.overloadLimit →
          t.trunk.overloadCount = 0 ∧ t.trunk.halt.overload = s.trunk.halt.overload))) ∧
  (∀ (set : SampleSet) (s : State), s.part = .operating →
    (s.crusher.state = .running ∨ s.crusher.state = .probing) →
    ∃ t, exec (.sampleSet set) s = .next t ∧
      (t.samples.channels[(10 : Fin 14)].held = true → t.crusher = s.crusher) ∧
      (t.samples.channels[(10 : Fin 14)].held = false →
        t.samples.channels[(10 : Fin 14)].value < s.delivery.jamThreshold →
          t.crusher = { s.crusher with jamCount := 0 }) ∧
      (t.samples.channels[(10 : Fin 14)].held = false →
        s.delivery.jamThreshold ≤ t.samples.channels[(10 : Fin 14)].value →
        s.crusher.jamCount + 1 < s.delivery.jamSets →
          t.crusher = { s.crusher with jamCount := s.crusher.jamCount + 1 })) ∧
  (∀ (set : SampleSet) (s : State), s.part = .operating →
    (s.crusher.state = .running ∨ s.crusher.state = .probing) →
    (∀ r ∈ s.crusher.residents, r.crusherPath = false) →
    ∃ t, exec (.sampleSet set) s = .next t ∧
      (t.samples.channels[(10 : Fin 14)].held = false →
        s.delivery.jamThreshold ≤ t.samples.channels[(10 : Fin 14)].value →
        s.delivery.jamSets ≤ s.crusher.jamCount + 1 →
          (t.crusher.jamCount = 0 ∧ t.crusher.untracked = true ∧
            t.crusher.allowance = (if s.crusher.untracked then s.crusher.allowance
              else s.delivery.untrackedAllowance) - 1 ∧
            t.crusher.drain = (match s.crusher.drain with
              | .stopped => .paused (15 * s.trunk.config.pitchPeriod)
              | .running n => .paused n
              | .paused n => .paused n)) ∧
          (1 < (if s.crusher.untracked then s.crusher.allowance else s.delivery.untrackedAllowance) →
            t.crusher.state = .reversing ∧ t.crusher.reverse = .running s.delivery.reverseTime ∧
            t.crusher.probe = .stopped ∧ t.trunk.halt.jam = true) ∧
          ((if s.crusher.untracked then s.crusher.allowance else s.delivery.untrackedAllowance) ≤ 1 →
            t.crusher.state = .blocked ∧ t.crusher.reverse = .stopped ∧
            t.crusher.probe = .stopped ∧ t.trunk.halt.blocked = true ∧ t.trunk.halt.jam = false ∧
            t.crusher.residents = s.crusher.residents.map fun r => { r with stalled := true }))) ∧
  (∀ (set : SampleSet) (s : State) (front back : List Resident) (r : Resident) (l : Lot),
    s.part = .operating → (s.crusher.state = .running ∨ s.crusher.state = .probing) →
    s.crusher.residents = front ++ r :: back → r.crusherPath = true →
    (∀ x ∈ back, x.crusherPath = false) → s.intake.lots[r.lot] = some l →
    ∃ t, exec (.sampleSet set) s = .next t ∧
      (t.samples.channels[(10 : Fin 14)].held = false →
        s.delivery.jamThreshold ≤ t.samples.channels[(10 : Fin 14)].value →
        s.delivery.jamSets ≤ s.crusher.jamCount + 1 →
          (∃ l', t.intake.lots[r.lot] = some l' ∧ l'.jamAllowance = l.jamAllowance - 1) ∧
          (∀ i : Fin 32, i ≠ r.lot → ∀ x, s.intake.lots[i] = some x → ∃ x',
            t.intake.lots[i] = some x' ∧ x'.jamAllowance = x.jamAllowance) ∧
          (1 < l.jamAllowance → t.crusher = { s.crusher with
              jamCount := 0
              state := .reversing
              drain := match s.crusher.drain with
                | .running n => .paused n
                | x => x
              reverse := .running s.delivery.reverseTime
              probe := .stopped } ∧ t.trunk.halt.jam = true ∧
            t.trunk.halt.blocked = s.trunk.halt.blocked) ∧
          (l.jamAllowance ≤ 1 → t.crusher = { s.crusher with
              jamCount := 0
              state := .blocked
              drain := match s.crusher.drain with
                | .running n => .paused n
                | x => x
              reverse := .stopped
              probe := .stopped
              residents := s.crusher.residents.map fun r => { r with stalled := true } } ∧
            t.trunk.halt.blocked = true ∧ t.trunk.halt.jam = false))) ∧
  (∀ (set : SampleSet) (s : State), (s.part = .config ∨ s.crusher.state = .reversing ∨
    s.crusher.state = .blocked) → ∃ t, exec (.sampleSet set) s = .next t ∧ t.crusher = s.crusher) ∧
  (∀ (set : SampleSet) (s : State), ∃ t, exec (.sampleSet set) s = .next t ∧
    (s.part = .config → t.grants.hpCount = s.grants.hpCount ∧
      t.grants.floodCount = s.grants.floodCount ∧ t.grants.hpFault = s.grants.hpFault ∧
      t.grants.floodFault = s.grants.floodFault) ∧
    (s.part = .operating → s.requestsOk → HeadersExamined s t))

/-- Tier 2, derived (R91, R93 to R95, R99). SAMPLE_SET in OPERATING: an ONLINE unit with its
post-flush check set is checked, one without it enters the flush queue at its dp_flush, and a held
dp moves no unit. Where the flush slot is absent, selection follows the evaluation: the candidate
last tried and its outcome, and, where it is selected, the slot and the sludge request. Where the figures
of the check stand to the end of the event: a candidate that is not exempt is selected outside HOLD with
a figure of 0 or above, those before it having failed, and none is selected in HOLD or with every figure
below 0. -/
def Obligations.SampleSetExaminesUnits : Prop :=
  (∀ (set : SampleSet) (s : State) (u : Fin 6), s.part = .operating →
    s.filter.units[u].state = .online → ∃ t, exec (.sampleSet set) s = .next t ∧
      ((t.unitDp u).held = true → t.filter.units[u] = s.filter.units[u]) ∧
      ((t.unitDp u).held = false → s.filter.units[u].postCheck = true →
        ((t.unitDp u).value < s.filter.units[u].config.dpFlush →
          t.filter.units[u] = { s.filter.units[u] with postCheck := false }) ∧
        (s.filter.units[u].config.dpFlush ≤ (t.unitDp u).value →
          t.filter.units[u] = { s.filter.units[u] with postCheck := false, state := .fault })) ∧
      ((t.unitDp u).held = false → s.filter.units[u].postCheck = false →
        ((t.unitDp u).value < s.filter.units[u].config.dpFlush →
          t.filter.units[u] = s.filter.units[u]) ∧
        (s.filter.units[u].config.dpFlush ≤ (t.unitDp u).value →
          t.filter.units[u].state = .flushWait ∨ t.filter.units[u].state = .flushReady ∨
            t.filter.units[u].state = .flushing))) ∧
  (∀ (set : SampleSet) (s : State), s.part = .operating → s.filter.slot = none →
    ∃ t, exec (.sampleSet set) s = .next t ∧ FlushSelected s t)

/-- Tier 2, derived (R106 to R118, R124, R130 to R139, R141, R146; that a shed step stops its
valve's settle timer and that one pass posts a cell's flood notice before its HP notice is the
model's choice, logs 12 and 13). The balance record: SAMPLE_SET in CONFIG leaves every figure as the
eight stages give it, and counts one evaluation; in OPERATING the figures stand as the stages give
them after the result's handling. The handling of a result by the grant arbiter, after a
CLEAR_EXCEPTIONS that names nothing and after the expiry of the step timer, where no selection can
follow: low-low state, shed operation and its victim, pending pass, bounds, notices. -/
def Obligations.EvaluationFigures : Prop :=
  (∀ (set : SampleSet) (s : State), s.part = .config → ∃ t, exec (.sampleSet set) s = .next t ∧
    BalanceFigures t ∧ t.balance.evalCount = (s.balance.evalCount + 1) % 65536 ∧
    t.filter = s.filter ∧ t.grants = s.grants ∧ t.trunk = s.trunk ∧ t.crusher = s.crusher ∧
    (s.balance.sticky.range = true → t.balance.sticky.range = true) ∧
    (t.balance.record.heldInput = true → t.balance.sticky.range = true) ∧
    ((t.balance.record.primary : Int) + t.balance.record.credit < 0 →
      t.balance.sticky.depleted = true) ∧
    (65535 < (t.balance.record.primary : Int) + t.balance.record.credit →
      t.balance.sticky.overflow = true) ∧
    t.holdOk) ∧
  (∀ (set : SampleSet) (s : State), s.part = .operating → ∃ t, exec (.sampleSet set) s = .next t ∧
    BalanceFigures t ∧ t.holdOk) ∧
  (∀ s : State, s.part = .operating → s.roomAt stationTx → s.bankQuiet → s.valvesOk →
    s.requestsOk → ∃ t, StationAnswers (.clearExceptions .station 0) 0x62 .accepted [] s t ∧
      BalanceFigures t ∧ ShedHandled s t false ∧ PassHandled s t false) ∧
  (∀ (s : State) (x : ShedStep), s.part = .operating → s.bankQuiet → s.valvesOk →
    s.requestsOk → s.grants.shed.timer.isRunning = true → s.grants.shed.current = some x →
    ∃ t, exec .stepTimerExpiry s = .next t ∧ BalanceFigures t ∧
      ∀ v : State, v = s.setValve x.cell x.kind { s.valve x.cell x.kind with
          counted := max (s.valve x.cell x.kind).commanded x.value } →
        ∀ u : State, u = v.withGrants { v.grants with
          shed := { s.grants.shed with current := none, timer := .stopped } } →
        ShedHandled u t true ∧ PassHandled u t true)

/-! ### Crusher, routing, bins (chapter 3), gates and lots (chapter 2) -/

/-- Tier 2, derived (R23, R46, R55, R56, R59, R62, R67, R68, R78, R96; that an expiry row acts on a running
timer only and that R64 speaks of any material flight near the crusher is the model's choice, logs 1 and
30). The reverse, probe and staleness timers: their whole effects. The drain timer: untracked material
leaves the crusher and the timer stops; with no entry of the resident list complete that is all; the
lots that are IN_TRANSIT with every flight entered leave the list in its order and are DELIVERED, each
commitment removed from the target bin, each volume put into the bin of its delivery position by the
table of R56, bins RELEASED or FULL by it, records freed, notices owed, and every other lot kept; in
OPERATING the routing unit's examination follows, which may start a move. -/
def Obligations.CrusherAndStalenessTimers : Prop :=
  ∀ s : State,
    (s.crusher.reverse.isRunning = true → Does .reverseTimerExpiry s (s.withCrusher { s.crusher with
      state := .probing, reverse := .stopped, probe := .running s.delivery.probeTime })) ∧
    (s.crusher.reverse.isRunning = false → Does .reverseTimerExpiry s s) ∧
    (s.crusher.probe.isRunning = true → Does .probeTimerExpiry s ((s.withCrusher { s.crusher with
      state := .running, probe := .stopped, drain := s.crusher.drain.resume }).withTrunk
        { s.trunk with halt := { s.trunk.halt with jam := false } })) ∧
    (s.crusher.probe.isRunning = false → Does .probeTimerExpiry s s) ∧
    (s.samples.timer.isRunning = true → Does .stalenessTimerExpiry s (s.withSamples { s.samples with
      channels := s.samples.channels.map fun ch => { ch with held := true }
      clean := { s.samples.clean with held := true, count := 0 }
      dirty := { s.samples.dirty with held := true, count := 0 }
      stale := true
      timer := .stopped })) ∧
    (s.samples.timer.isRunning = false → Does .stalenessTimerExpiry s s) ∧
    (s.crusher.drain.isRunning = false → Does .drainTimerExpiry s s) ∧
    (s.crusher.drain.isRunning = true →
      ((∀ r ∈ s.crusher.residents, ∀ l, s.intake.lots[r.lot] = some l →
          l.state ≠ .inTransit ∨ l.flights ≠ r.entered) → Settles .drainTimerExpiry s
        (s.withCrusher { s.crusher with untracked := false, drain := .stopped }) fun t =>
          s.part = .operating → s.trunkOk = true → s.outletsOk → RoutingExamined s.routing t) ∧
      (∀ done : Fin 32 → Bool, s.residentsOk → (∀ id, done id = true ↔
          ∃ r ∈ s.crusher.residents, r.lot = id ∧ ∃ l, s.intake.lots[id] = some l ∧
            l.state = .inTransit ∧ l.flights = r.entered) →
        ∃ t, exec .drainTimerExpiry s = .next t ∧ LotsDelivered s t done ∧ Unasked s t ∧
          (s.part = .operating → s.trunkOk = true → s.outletsOk → s.begunOk →
            RoutingExamined s.routing t)) ∧
      (∀ r l, s.crusher.residents = [r] → s.intake.lots[r.lot] = some l → l.state = .inTransit →
        l.flights = r.entered → ∃ t, exec .drainTimerExpiry s = .next t ∧
          t.crusher = { s.crusher with residents := [], untracked := false, drain := .stopped } ∧
          (∀ l', t.intake.lots[r.lot] = some l' → l'.source = .flush) ∧
          t.bins[r.position.bin].fill =
            (if s.bins[r.position.bin].state.isOut then s.bins[r.position.bin].fill
            else if r.position.bin.1 < 4 then
              min (s.bins[r.position.bin].fill + l.volume)
                (s.delivery.capacity[r.position.bin] -
                  (if l.target.bin = r.position.bin then s.bins[r.position.bin].committed - l.volume
                  else s.bins[r.position.bin].committed))
            else min (s.bins[r.position.bin].fill + l.volume) 16777215) ∧
          (∀ b, b ≠ r.position.bin → t.bins[b].fill = s.bins[b].fill) ∧ Unasked s t))

/-- Tier 2, derived (R61 to R65; that ROUTING_MOVE as a command is the examination, that the timer's
expiry acts on a running timer only, and that R64 speaks of any material flight near the crusher, is
the model's choice, logs 17, 1 and 30). The routing-settled line and the routing timer in OPERATING,
each change of the routing state followed by the routing unit's examination, and a change of the line
that R61 gives no effect changing the line's level alone, as in CONFIG (R73). ROUTING_MOVE, the
examination itself: with material of another target lowest at offset D or below and the crusher
drained, that target is commanded; ROUTING is present while the routing is not SETTLED at the target
of some material flight there, BIN while the bin of one is out. -/
def Obligations.RoutingEvents : Prop :=
  ∀ s : State,
    (s.part = .config → ∀ level, Does (.routingSettledChange level) s
      (s.withInputs { s.inputs with routingSettled := level })) ∧
    (s.part = .operating → (∀ d, d ≤ s.trunk.config.routingLead → d < s.trunk.config.carry →
        s.trunk.flight d = .empty) →
      (s.inputs.routingSettled = false → s.routing.state ≠ .settled →
        ∃ t, exec (.routingSettledChange true) s = .next t ∧
          t.routing = { s.routing with state := .settled, timer := .stopped } ∧
          t.inputs = { s.inputs with routingSettled := true } ∧ t.trunk.halt.routing = false ∧
          Unasked s t ∧ Quiet s t) ∧
      (s.inputs.routingSettled = true → s.routing.state = .settled →
        ∃ t, exec (.routingSettledChange false) s = .next t ∧
          t.routing = ⟨s.routing.position, .moving, .running s.delivery.routingTime⟩ ∧
          t.inputs = { s.inputs with routingSettled := false } ∧ t.trunk.halt.routing = false ∧
          Unasked s t ∧ Quiet s t) ∧
      (s.routing.timer.isRunning = true → ∃ t, exec .routingTimerExpiry s = .next t ∧
        t.routing = { s.routing with state := .fault, timer := .stopped } ∧
        t.alertActive .routingFault = true ∧ Unasked s t ∧ Quiet s t) ∧
      Does .routingMove s (s.withTrunk { s.trunk with
        halt := { s.trunk.halt with routing := false, bin := false } })) ∧
    (s.part = .operating →
      (∀ level, s.inputs.routingSettled = level ∨
          (level = true ∧ s.routing.state = .settled) ∨
          (level = false ∧ s.routing.state ≠ .settled) →
        Does (.routingSettledChange level) s
          (s.withInputs { s.inputs with routingSettled := level })) ∧
      (s.inputs.routingSettled = false → s.routing.state ≠ .settled →
        Examines (.routingSettledChange true) s
          (s.withInputs { s.inputs with routingSettled := true })
          { s.routing with state := .settled, timer := .stopped }) ∧
      (s.inputs.routingSettled = true → s.routing.state = .settled →
        Examines (.routingSettledChange false) s
          (s.withInputs { s.inputs with routingSettled := false })
          ⟨s.routing.position, .moving, .running s.delivery.routingTime⟩) ∧
      (s.routing.timer.isRunning = true →
        Examines .routingTimerExpiry s s { s.routing with state := .fault, timer := .stopped } ∧
        ∀ t, exec .routingTimerExpiry s = .next t → s.isLatched .routingFault = true →
          t.plant.flags[AlertSource.routingFault.index] = true) ∧
      Examines .routingMove s s s.routing) ∧
    (s.routing.timer.isRunning = false → Does .routingTimerExpiry s s) ∧
    (∀ (d : Nat) (m : Target) (purge : Nat) (routing bin : Bool), s.part = .operating →
      d ≤ s.trunk.config.routingLead → d < s.trunk.config.carry →
      s.material (s.trunk.flight d) = some (m, purge) →
      (∀ e, e < d → s.trunk.flight e = .empty) →
      (bin = true ↔ ∃ e x y, e ≤ s.trunk.config.routingLead ∧ e < s.trunk.config.carry ∧
        s.material (s.trunk.flight e) = some (x, y) ∧ (s.bins[x.bin].state = .released ∨
          s.bins[x.bin].state = .absent ∨ s.bins[x.bin].state = .presentWait)) →
      (m ≠ s.routing.position → s.crusher.residents = [] → s.crusher.untracked = false →
        Does .routingMove s ((s.withRouting ⟨m, .moving, .running s.delivery.routingTime⟩).withTrunk
          { s.trunk with halt := { s.trunk.halt with routing := true, bin := bin } })) ∧
      ((routing = true ↔ s.routing.state ≠ .settled ∨
          ∃ e x y, e ≤ s.trunk.config.routingLead ∧ e < s.trunk.config.carry ∧
            s.material (s.trunk.flight e) = some (x, y) ∧ x ≠ s.routing.position) →
        (m = s.routing.position ∨ s.crusher.residents ≠ [] ∨ s.crusher.untracked = true) →
          Does .routingMove s (s.withTrunk { s.trunk with
            halt := { s.trunk.halt with routing := routing, bin := bin } })))

/-- Tier 2, derived (R65, R70; that the bin condition is examined again in CONFIG too is the model's
choice, log 15). BIN_PRESENT_CHANGE in either part state, by the table of R70; a level that is no
change does nothing; after a change of the bin's state BIN is present while the bin condition
holds. -/
def Obligations.BinPresentChange : Prop :=
  ∀ (s : State) (b : Fin 5),
    (∀ level, s.inputs.binPresent[b] = level → Does (.binPresentChange b level) s s) ∧
    (s.inputs.binPresent[b] = true →
      (s.bins[b].state = .released → Settles (.binPresentChange b false) s
        ((s.withInputs { s.inputs with binPresent := put s.inputs.binPresent b false }).withBins
          (put s.bins b { s.bins[b] with state := .absent })) fun t =>
            s.trunkOk = true → s.outletsOk → t.BinShown) ∧
      (s.bins[b].state = .absent → Does (.binPresentChange b false) s
        (s.withInputs { s.inputs with binPresent := put s.inputs.binPresent b false })) ∧
      (s.bins[b].state ≠ .released → s.bins[b].state ≠ .absent →
        Settles (.binPresentChange b false) s
          ((s.withInputs { s.inputs with binPresent := put s.inputs.binPresent b false }).withBins
            (put s.bins b { s.bins[b] with state := .absent, unexpected := true })) fun t =>
              t.alertActive .bin = true ∧ (s.trunkOk = true → s.outletsOk → t.BinShown))) ∧
    (s.inputs.binPresent[b] = false →
      (s.bins[b].state = .absent → Settles (.binPresentChange b true) s
        ((s.withInputs { s.inputs with binPresent := put s.inputs.binPresent b true }).withBins
          (put s.bins b { s.bins[b] with state := .presentWait })) fun t =>
            s.trunkOk = true → s.outletsOk → t.BinShown) ∧
      (s.bins[b].state ≠ .absent → Does (.binPresentChange b true) s
        (s.withInputs { s.inputs with binPresent := put s.inputs.binPresent b true })))

/-- Tier 2, derived (R22, R34, R38, R39, R46, R67; that a timer's expiry acts on a running timer
only is the model's choice, log 1). The gate-closed lines and the gate timers: every change of a line
and every expiry of a gate timer completes; a level that is no change does nothing; a gate that enters
FAULT returns a RESERVED open lot of its outlet to PENDING, its flights EMPTY and its commitment
removed. -/
def Obligations.GateEvents : Prop :=
  ∀ (s : State) (o : Fin 9),
    (∀ level, ∃ t, exec (.gateClosedChange o level) s = .next t ∧
      t.inputs = { s.inputs with gateClosed := put s.inputs.gateClosed o level }) ∧
    (∃ t, exec (.gateTimerExpiry o) s = .next t ∧ t.inputs = s.inputs ∧
      t.outlets[o].timer = .stopped) ∧
    (∀ level, s.inputs.gateClosed[o] = level → Does (.gateClosedChange o level) s s) ∧
    (s.part = .config → ∀ level, Does (.gateClosedChange o level) s
      (s.withInputs { s.inputs with gateClosed := put s.inputs.gateClosed o level })) ∧
    (s.part = .operating → s.inputs.gateClosed[o] = false →
      (s.outlets[o].gate = .closing → Does (.gateClosedChange o true) s
        ((s.withInputs { s.inputs with gateClosed := put s.inputs.gateClosed o true }).withOutlets
          (put s.outlets o ⟨.closed, .stopped, false, s.outlets[o].closeTime⟩))) ∧
      (s.outlets[o].gate = .fault → Does (.gateClosedChange o true) s
        ((s.withInputs { s.inputs with gateClosed := put s.inputs.gateClosed o true }).withOutlets
          (put s.outlets o { s.outlets[o] with spill := false }))) ∧
      (s.outlets[o].gate = .isOpen ∨ s.outlets[o].gate = .closed →
        Does (.gateClosedChange o true) s
          (s.withInputs { s.inputs with gateClosed := put s.inputs.gateClosed o true }))) ∧
    (s.part = .operating → s.inputs.gateClosed[o] = true →
      (s.outlets[o].gate = .isOpen ∨ s.outlets[o].gate = .closing →
        Does (.gateClosedChange o false) s
          (s.withInputs { s.inputs with gateClosed := put s.inputs.gateClosed o false })) ∧
      (s.outlets[o].gate = .fault → Does (.gateClosedChange o false) s
        ((s.withInputs { s.inputs with gateClosed := put s.inputs.gateClosed o false }).withOutlets
          (put s.outlets o { s.outlets[o] with spill := true }))) ∧
      (s.outlets[o].gate = .closed → ∃ t, exec (.gateClosedChange o false) s = .next t ∧
        t.outlets[o] = ⟨.fault, .stopped, true, s.outlets[o].closeTime⟩ ∧
        t.inputs = { s.inputs with gateClosed := put s.inputs.gateClosed o false } ∧
        t.alertActive .gateFault = true ∧ LotSetBack s t o ∧ Unasked s t)) ∧
    (s.outlets[o].timer.isRunning = true → ∃ t, exec (.gateTimerExpiry o) s = .next t ∧
      t.outlets[o] = ⟨.fault, .stopped, true, s.outlets[o].closeTime⟩ ∧
      t.alertActive .gateFault = true ∧ LotSetBack s t o ∧ Unasked s t) ∧
    (s.outlets[o].timer.isRunning = false → Does (.gateTimerExpiry o) s s)

/-- Tier 2, derived (R44; that the row taken as a command of its own is the taking up followed by a
pending pass is the model's choice, log 17). HELD_SLUDGE_REQUEST_TAKEN_UP: a held request becomes a
sludge lot under the next free id when the flush outlet has no open lot, and the held request is
absent from then on where no selection follows; with no request held nothing changes. -/
def Obligations.HeldSludgeRequest : Prop :=
  ∀ s : State,
    (s.intake.held = none → Does .heldSludgeRequestTakenUp s s) ∧
    (∀ r id, s.intake.held = some r → s.openLot .flush = none → s.nextId = some id →
      ∃ t l, exec .heldSludgeRequestTakenUp s = .next t ∧ t.intake.lots[id] = some l ∧
        l.source = .flush ∧ l.flights = r.flights ∧ l.declared = r.volume ∧
        l.target = ⟨4, .bypass⟩ ∧ l.purge = 0 ∧ l.jamAllowance = s.delivery.untrackedAllowance ∧
        l.rank = .service ∧ l.stamp = s.intake.stamp ∧ l.state.isOpen = true ∧
        (s.bankQuiet → t.intake.held = none) ∧ Unasked s t)

/-! ### Filter bank (chapter 5), valves and links' timers (chapters 7, 9) -/

/-- Tier 2, derived (R98, R100; that a flush timer's expiry acts on a running timer only is the
model's choice, log 1). FLUSH_DONE and FLUSH_TIMER_EXPIRY: the end of a flush, by the unit's report
or without it. -/
def Obligations.FlushEnds : Prop :=
  ∀ (s : State) (u : Fin 6),
    (s.filter.units[u].state = .flushing → s.inputs.flushDone[u] = false →
      ∃ t, exec (.flushDone u true) s = .next t ∧
        t.filter.units[u] = { s.filter.units[u] with
          state := .online, timer := .stopped, postCheck := true } ∧
        (s.filter.slot = some u → t.filter.slot ≠ some u) ∧
        t.inputs = { s.inputs with flushDone := put s.inputs.flushDone u true } ∧
        t.outputs.flushStart[u] = false ∧ Unasked s t) ∧
    (s.filter.units[u].state ≠ .flushing ∨ s.inputs.flushDone[u] = true →
      Does (.flushDone u true) s
        (s.withInputs { s.inputs with flushDone := put s.inputs.flushDone u true })) ∧
    Does (.flushDone u false) s
      (s.withInputs { s.inputs with flushDone := put s.inputs.flushDone u false }) ∧
    (s.filter.units[u].timer.isRunning = true → ∃ t, exec (.flushTimerExpiry u) s = .next t ∧
      t.filter.units[u] = { s.filter.units[u] with state := .fault, timer := .stopped } ∧
      (s.filter.slot = some u → t.filter.slot ≠ some u) ∧
      (∀ i : Fin 32, s.filter.begun[i] = true → t.filter.begun[i] = true) ∧
      t.outputs.flushStart[u] = false ∧ t.alertActive .filterFault = true ∧ Unasked s t) ∧
    (s.filter.units[u].timer.isRunning = false → Does (.flushTimerExpiry u) s s)

/-- Tier 2, derived (R107, R124, R125, R138; that an expiry row acts on a running timer only is the
model's choice, log 1). SETTLE_TIMER_EXPIRY: the counted grant becomes the commanded one and the
timer stops; STEP_TIMER_EXPIRY: the counted grant of the step's valve becomes the larger of the
commanded grant and the step's value; one evaluation follows. In CONFIG that is the whole of it. In
OPERATING the handling of the result may command grants, which a counted grant follows upward only;
where no selection can follow, the counted grants afterwards are stated exactly. -/
def Obligations.SettleAndStepTimers : Prop :=
  ∀ s : State,
    (∀ (c : Fin 8) (k : ValveKind), (s.valve c k).timer.isRunning = true →
      Settles (.settleTimerExpiry c k) s s fun t =>
        (s.part = .config →
          t.valve c k = { s.valve c k with counted := (s.valve c k).commanded, timer := .stopped } ∧
          (∀ c' k', ¬(c' = c ∧ k' = k) → t.valve c' k' = s.valve c' k') ∧
          t.balance.evalCount = (s.balance.evalCount + 1) % 65536) ∧
        (s.part = .operating → (s.valve c k).commanded ≤ (t.valve c k).counted ∧
          (t.valve c k).commanded ≤ (t.valve c k).counted ∧
          (s.bankQuiet →
            (t.valve c k).counted = max (s.valve c k).commanded (t.valve c k).commanded ∧
            ((t.valve c k).commanded = (s.valve c k).commanded → (t.valve c k).timer = .stopped) ∧
            (s.valvesOk → ∀ c' k', ¬(c' = c ∧ k' = k) →
              (t.valve c' k').counted = max (s.valve c' k').counted (t.valve c' k').commanded) ∧
            t.balance.evalCount = (s.balance.evalCount + 1) % 65536))) ∧
    (∀ c k, (s.valve c k).timer.isRunning = false → Does (.settleTimerExpiry c k) s s) ∧
    (∀ x : ShedStep, s.grants.shed.timer.isRunning = true → s.grants.shed.current = some x →
      Settles .stepTimerExpiry s s fun t =>
        (s.part = .config →
          t.valve x.cell x.kind = { s.valve x.cell x.kind with
            counted := max (s.valve x.cell x.kind).commanded x.value } ∧
          t.grants.shed.current = none ∧ t.grants.shed.timer = .stopped ∧
          t.balance.evalCount = (s.balance.evalCount + 1) % 65536) ∧
        (s.part = .operating →
          max (s.valve x.cell x.kind).commanded x.value ≤ (t.valve x.cell x.kind).counted ∧
          (s.bankQuiet →
            (t.valve x.cell x.kind).counted = max (max (s.valve x.cell x.kind).commanded x.value)
              (t.valve x.cell x.kind).commanded ∧
            (s.valvesOk → ∀ c' k', ¬(c' = x.cell ∧ k' = x.kind) →
              (t.valve c' k').counted = max (s.valve c' k').counted (t.valve c' k').commanded) ∧
            t.balance.evalCount = (s.balance.evalCount + 1) % 65536))) ∧
    (s.grants.shed.timer.isRunning = true → s.grants.shed.current = none →
      Settles .stepTimerExpiry s s fun t => s.part = .config →
        (∀ c k, t.valve c k = s.valve c k) ∧ t.grants.shed.timer = .stopped ∧
        t.balance.evalCount = (s.balance.evalCount + 1) % 65536) ∧
    (s.grants.shed.timer.isRunning = false → Does .stepTimerExpiry s s)

/-- Tier 2, derived (R28, R145, R165, R166; that the expiry acts on a running timer only is the
model's choice, log 1). LINK_TIMER_EXPIRY: the link is LOST, the cell's HP is withdrawn and its HP
request cleared, a PENDING open lot of the cell is cancelled and one in any other state goes on; the
cell's job goes on as it was. -/
def Obligations.LinkTimerExpiry : Prop :=
  ∀ (s : State) (c : Fin 8),
    (s.cells[c].linkTimer.isRunning = true → Settles (.linkTimerExpiry c) s
      (s.withCells (put s.cells c { s.cells[c] with link := .lost, linkTimer := .stopped }))
      fun t => (t.valve c .hp).commanded = 0 ∧ (t.valve c .hp).pending = none ∧
        (∀ id l, s.openLot (.cell c) = some (id, l) → l.state = .pending →
          ∀ l', t.intake.lots[id] = some l' → l'.source = .flush) ∧
        ((∀ id l, s.openLot (.cell c) = some (id, l) → l.state ≠ .pending) →
          t.intake = s.intake ∧ t.trunk = s.trunk ∧
          (t.valve c .hp).counted = (s.valve c .hp).counted ∧
          (0 < (s.valve c .hp).commanded →
            (t.valve c .hp).timer = .running s.grants.supply.settleTime ∧
            Notice.grant (s.valve c .flood).commanded 0 .linkLost ∈ t.owedNotices c))) ∧
    (s.cells[c].linkTimer.isRunning = false → Does (.linkTimerExpiry c) s s)

/-! ### The link interface (chapter 10) -/

/-- Tier 2, derived (R180, R181; that a gap timer's expiry acts on a running timer only and that
FRAME_DROPPED carries the bytes it concerns is the model's choice, logs 1 and 18). RECEIVED_BYTE
short of a complete frame: hunting, the bytes of a frame, and the two bytes that end a frame early.
GAP_TIMER_EXPIRY and FRAME_DROPPED: the frame is counted as dropped, the framing-seen flag set, the
receiver back in HUNT; a request frame for which the reply queue has no room sets the overrun flag
besides. -/
def Obligations.Receivers : Prop :=
  ∀ (s : State) (p : Port) (b : Byte),
    (s.links.rx[rxIndex p].state = .hunt → b ≠ 0x5A →
      Receives (.receivedByte p b) p (fun r => { r with framingSeen := true }) s) ∧
    (s.links.rx[rxIndex p].state = .hunt → b = 0x5A →
      Receives (.receivedByte p b) p (fun r =>
        { r with state := .inFrame [0x5A], gap := .running 2 }) s) ∧
    (s.links.rx[rxIndex p].state = .inFrame [0x5A] → b.toNat / 16 ≠ 15 - b.toNat % 16 →
      Receives (.receivedByte p b) p (fun r => { r with
        state := .hunt, gap := .stopped, dropped := (r.dropped + 1) % 65536, framingSeen := true }) s) ∧
    (∀ k, s.links.rx[rxIndex p].state = .inFrame [0x5A, k] → 48 < b.toNat →
      Receives (.receivedByte p b) p (fun r => { r with
        state := .hunt, gap := .stopped, dropped := (r.dropped + 1) % 65536, framingSeen := true }) s) ∧
    (s.links.rx[rxIndex p].state = .inFrame [0x5A] → b.toNat / 16 = 15 - b.toNat % 16 →
      Receives (.receivedByte p b) p (fun r =>
        { r with state := .inFrame [0x5A, b], gap := .running 2 }) s) ∧
    (∀ k, s.links.rx[rxIndex p].state = .inFrame [0x5A, k] → b.toNat ≤ 48 →
      Receives (.receivedByte p b) p (fun r =>
        { r with state := .inFrame [0x5A, k, b], gap := .running 2 }) s) ∧
    (∀ bytes, s.links.rx[rxIndex p].state = .inFrame bytes → 3 ≤ bytes.length →
      bytes.length + 1 < 5 + (bytes.getD 2 0).toNat →
      Receives (.receivedByte p b) p (fun r =>
        { r with state := .inFrame (bytes ++ [b]), gap := .running 2 }) s) ∧
    (s.links.rx[rxIndex p].gap.isRunning = true → Receives (.gapTimerExpiry p) p (fun r => { r with
      state := .hunt, gap := .stopped, dropped := (r.dropped + 1) % 65536, framingSeen := true }) s) ∧
    (s.links.rx[rxIndex p].gap.isRunning = false → Receives (.gapTimerExpiry p) p id s) ∧
    (∀ bytes, isSound p bytes = false → Receives (.frameDropped p bytes) p (fun r => { r with
      state := .hunt, gap := .stopped, dropped := (r.dropped + 1) % 65536, framingSeen := true }) s) ∧
    (∀ bytes q, isSound p bytes = true → txIndex p = some q → ¬s.roomAt q →
      ∃ t, exec (.frameDropped p bytes) s = .next t ∧ t.inner = s.inner ∧
        t.links.tx[q].overrun = true ∧ (∀ q', t.owedReplies q' = s.owedReplies q') ∧
        t.links.rx = change s.links.rx (rxIndex p) fun r => { r with
          state := .hunt, gap := .stopped, dropped := (r.dropped + 1) % 65536, framingSeen := true })

/-- Tier 2, derived (R179, R180, R181, R182, R183; that the byte and the row are one event is the model's
choice, log 6). The frame and its check: the CRC from its initial value bit by bit, with R179's reference
value, and the bytes of a frame. The byte that completes a well-formed frame of a request has the effect
of the request's row, here for the rows without operands, SET_FLOOD, SET_HP and START_JOB; the byte that
completes a sample set's frame has the effect of SAMPLE_SET with the set of R182; the byte that completes
any other frame, or a request's with the reply queue full, drops it. -/
def Obligations.CompletedFrameIsTheRow : Prop :=
  (crc [0x31, 0x32, 0x33, 0x34, 0x35, 0x36, 0x37, 0x38, 0x39] = 0x29B1#16 ∧ crc [] = 0xFFFF#16 ∧
    (∀ (shift : BitVec 16 → BitVec 16) (bytes : List Byte) (b : Byte),
      (∀ r, shift r = if r.msb then (r <<< 1) ^^^ 0x1021#16 else r <<< 1) →
        crc (bytes ++ [b]) = shift (shift (shift (shift (shift (shift (shift (shift
          (crc bytes ^^^ (b.zeroExtend 16 <<< 8)))))))))) ∧
    ∀ (kind : Byte) (payload : List Byte), frameOf kind payload =
      0x5A :: kind :: BitVec.ofNat 8 payload.length :: (payload ++
        u16 (crc (kind :: BitVec.ofNat 8 payload.length :: payload)).toNat)) ∧
  (∀ (s : State) (p : Port) (payload : List Byte) (i : Instr), p ≠ .sample →
    ((∃ code, (code, i) ∈ [((0x02 : Byte), Instr.endJob p), (0x03, .pause p), (0x04, .continueJob p),
        (0x09, .query p), (0x20, .commission p), (0x21, .decommission p), (0x22, .restart p),
        (0x50, .crusherCleared p), (0x52, .trunkStop p), (0x53, .trunkRun p)] ∧ payload = [code]) ∨
      (∃ v, v < 65536 ∧ payload = 0x05 :: u16 v ∧ i = .setFlood p v) ∨
      (∃ v, v < 65536 ∧ payload = 0x06 :: u16 v ∧ i = .setHp p v) ∨
      (∃ n, n < 256 ∧ payload = 0x01 :: u8 n ∧ i = .startJob p n)) →
    ∀ bytes b, bytes ++ [b] = frameOf 0xE1 payload → s.links.rx[rxIndex p].state = .inFrame bytes →
      exec (.receivedByte p b) s = exec i s) ∧
  (∀ (s : State) (payload bytes : List Byte) (b : Byte) (set : SampleSet), payload.length = 30 →
    bytes ++ [b] = frameOf 0x78 payload → s.links.rx[rxIndex .sample].state = .inFrame bytes →
    (∀ c : Fin 14, set.readings[c] =
      256 * (payload.getD (2 * c.1) 0).toNat + (payload.getD (2 * c.1 + 1) 0).toNat) →
    (∀ c : Fin 14, set.valid[c] =
      (256 * (payload.getD 28 0).toNat + (payload.getD 29 0).toNat).testBit c.1) →
      exec (.receivedByte .sample b) s = exec (.sampleSet set) s) ∧
  (∀ (s : State) (p : Port) (bytes : List Byte) (b : Byte),
    s.links.rx[rxIndex p].state = .inFrame bytes → 3 ≤ bytes.length →
    5 + (bytes.getD 2 0).toNat = bytes.length + 1 →
    (∀ payload : List Byte, bytes ++ [b] = frameOf 0xE1 payload → 1 ≤ payload.length →
      payload.length ≤ 48 → p = .sample) →
    (∀ payload : List Byte, bytes ++ [b] = frameOf 0x78 payload → payload.length = 30 →
      p ≠ .sample) →
      Receives (.receivedByte p b) p (fun r => { r with
        state := .hunt, gap := .stopped, dropped := (r.dropped + 1) % 65536, framingSeen := true }) s) ∧
  ∀ (s : State) (p : Port) (q : Fin 9) (payload bytes : List Byte) (b : Byte),
    txIndex p = some q → ¬s.roomAt q → 1 ≤ payload.length → payload.length ≤ 48 →
    bytes ++ [b] = frameOf 0xE1 payload → s.links.rx[rxIndex p].state = .inFrame bytes →
      ∃ t, exec (.receivedByte p b) s = .next t ∧ t.inner = s.inner ∧
        t.links.tx[q].overrun = true ∧ (∀ q', t.owedReplies q' = s.owedReplies q') ∧
        t.links.rx = change s.links.rx (rxIndex p) fun r => { r with
          state := .hunt, gap := .stopped, dropped := (r.dropped + 1) % 65536, framingSeen := true }

/-- Tier 2, derived (R188). FRAME_SENT: a reply that waits goes next; with none, on a cell port
whose link is LINKED, the oldest notice; otherwise the transmitter is IDLE. -/
def Obligations.FrameSent : Prop :=
  ∀ (s : State) (p : Port) (q : Fin 9), txIndex p = some q →
    (∀ r rest, s.links.tx[q].replies = r :: rest → ∃ t, exec (.frameSent p) s = .next t ∧
      t.inner = s.inner ∧ t.links.tx[q].sending = some (.reply r) ∧
      t.links.tx[q].replies = rest ∧ t.links.rx = s.links.rx) ∧
    (∀ c n rest, p = .cell c → s.links.tx[q].replies = [] → s.cells[c].link = .linked →
      s.links.notices[c] = n :: rest → ∃ t, exec (.frameSent p) s = .next t ∧
        t.inner = s.inner ∧ t.links.tx[q].sending = some (.notice n) ∧
        t.links.notices[c] = rest ∧ t.links.tx[q].replies = [] ∧ t.links.rx = s.links.rx) ∧
    (s.links.tx[q].replies = [] →
      (∀ c, p = .cell c → s.cells[c].link ≠ .linked ∨ s.links.notices[c] = []) →
        ∃ t, exec (.frameSent p) s = .next t ∧ t.inner = s.inner ∧
          t.links.tx[q].sending = none ∧ t.links.tx[q].replies = [] ∧ t.links.rx = s.links.rx)

/-- Tier 2, derived (R183). UNKNOWN_REQUEST on the station port and on a cell port; a station
request on a cell port is refused AUTHORITY, a cell request on the station port BAD_VALUE, whatever
its operands; nothing else changes. -/
def Obligations.RequestsTheLinkRefuses : Prop :=
  (∀ (s : State) (code : Byte), isKnownCode code = false →
    (s.roomAt stationTx →
      StationDoes (.unknownRequest .station code) code (.refused .unknownRequest) [] s s) ∧
    (∀ c, s.roomAt (cellTx c) →
      CellDoes c (.unknownRequest (.cell c) code) code (.refused .unknownRequest) s s)) ∧
  (∀ (i : Instr) (code : Byte) (s : State), i.requestCode = some code →
    (∀ c, i.requestPort = some (.cell c) → code ∈ stationCodes → s.roomAt (cellTx c) →
      CellDoes c i code (.refused .authority) s s) ∧
    (i.requestPort = some .station → code ∈ cellCodes → s.roomAt stationTx →
      StationDoes i code (.refused .badValue) [] s s))

/-- Tier 2, derived (R181). A request for which the port's reply queue has no room is dropped: its
frame is counted as dropped, the receiver's framing-seen flag and the port's overrun flag are set,
and nothing else changes: no other port's overrun flag, no reply or notice owed, not the read
image. -/
def Obligations.FullQueueDropsRequests : Prop :=
  ∀ (i : Instr) (code : Byte) (p : Port) (q : Fin 9) (s : State), i.requestCode = some code →
    i.requestPort = some p → txIndex p = some q → ¬s.roomAt q →
      ∃ t, exec i s = .next t ∧ t.inner = s.inner ∧ t.links.tx[q].overrun = true ∧
        (∀ q', t.owedReplies q' = s.owedReplies q') ∧ t.links.image = s.links.image ∧
        (∀ q' : Fin 9, q' ≠ q → t.links.tx[q'].overrun = s.links.tx[q'].overrun) ∧
        (∀ c, t.owedNotices c = s.owedNotices c) ∧
        t.links.rx = change s.links.rx (rxIndex p) fun r => { r with
          state := .hunt, gap := .stopped, dropped := (r.dropped + 1) % 65536, framingSeen := true }

/-! ### Cell requests (chapters 2, 7, 9) -/

/-- Tier 2, derived (R21, R24, R26, R126, R167, R171, R173, R174, R176, R179, R184). In CONFIG every
cell request on its own port is refused NOT_READY; QUERY is answered ACCEPTED with the status block in
either part state; the layout of the status block, byte by byte. -/
def Obligations.CellRequestsInConfig : Prop :=
  EncodedAsStated ∧ (∀ s : State, s.StatusBlocks) ∧
  ∀ (s : State) (c : Fin 8), s.roomAt (cellTx c) →
    (∀ i code, s.part = .config → i.requestCode = some code → i.requestPort = some (.cell c) →
      code ∈ cellCodes → code ≠ 0x09 → CellDoes c i code (.refused .notReady) s s) ∧
    CellDoes c (.query (.cell c)) 0x09 .accepted s s ∧
    (∃ t, exec (.query (.cell c)) s = .next t ∧
      Answered (cellTx c) ⟨0x09, .accepted, (s.updateCell c CellRecord.hear).statusBlock c⟩ s t)

/-- Tier 2, derived (R129, R153, R158, R167, R169, R170; that the status is read after the first
handling of the result is the model's reading, log 22). START_JOB on an IDLE cell: the profile is
claimed, working values, facts and aux outputs are loaded, the aux outputs from the preset list where
PRESETS is set, the cell is RUNNING and its demands are requested: each is granted or stays pending,
and the status says which; ADJUSTED only where the recipe bars the profile's HP demand; with no demand
the status is ACCEPTED or that. -/
def Obligations.StartJobOnIdleCell : Prop :=
  ∀ (s : State) (c : Fin 8) (i : Fin 64) (p : Profile) (r : Recipe) (aux : Vector Byte 8),
    s.roomAt (cellTx c) → s.part = .operating → s.cells[c].state = .idle →
    s.profiles.profiles[i] = some p → s.NewAux p s.cells[c].aux s.cells[c].aux aux →
    p.owner = none → s.recipes.lookup p.group p.recipeIndex = some r →
    p.initial.flood ≤ s.cells[c].config.floodMax →
    (if r.hpPermitted then p.initial.hp else 0) ≤ s.cells[c].config.hpMax →
    s.openLot (.cell c) = none →
      ∃ v, (∀ x, v ≠ .refused x) ∧
        (v = .adjusted → r.hpPermitted = false ∧ 0 < p.initial.hp) ∧
        (v = .accepted → r.hpPermitted = true ∨ p.initial.hp = 0) ∧
        (p.initial.flood = 0 → (if r.hpPermitted then p.initial.hp else 0) = 0 →
          v = .accepted ∨ v = .adjusted) ∧
        CellSettles c (.startJob (.cell c) i.1) 0x01 v s
          ((s.withProfiles { s.profiles with
            profiles := put s.profiles.profiles i (some { p with owner := some c }) }).withCells
              (put s.cells c { s.cells[c] with
                working := ⟨p.initial.flood, if r.hpPermitted then p.initial.hp else 0,
                  p.initial.lots, p.initial.volume⟩
                facts := some (r.facts p.priority)
                aux := aux
                active := some i
                state := .running })) fun t => DemandsAsked s t c (s.valve c)
            (demandOf p.initial.flood (if r.hpPermitted then p.initial.hp else 0)) v

/-- Tier 2, derived (R129, R153, R159, R167, R168, R169, R170; that the status is read after the first
handling of the result is the model's reading, log 22). START_JOB on a RUNNING cell: the job in hand
is suspended onto the return stack and into its profile, the save half of a KEEP profile, the initial
half of any other, with the aux snapshot where PRESETS is set, and its coolant withdrawn; the new job
is set up and its demands requested; and the refusals of R167 from order 2 on, on an IDLE and on a
RUNNING cell: BAD_VALUE, DISABLED, BUSY, NO_PROFILE, IN_USE, STACK_FULL, NO_RECIPE, BOUNDS,
LOT_OPEN. -/
def Obligations.StartJobNests : Prop :=
  ∀ (s : State) (c : Fin 8), s.roomAt (cellTx c) → s.part = .operating →
    (∀ (i j : Fin 64) (p q : Profile) (r : Recipe) (aux : Vector Byte 8),
      s.NewAux p s.cells[c].aux s.cells[c].aux aux → s.cells[c].state = .running →
      s.cells[c].active = some j → s.cells[c].stack.length < 3 → i ≠ j →
      s.profiles.profiles[i] = some p → s.profiles.profiles[j] = some q → p.owner = none →
      s.recipes.lookup p.group p.recipeIndex = some r →
      p.initial.flood ≤ s.cells[c].config.floodMax →
      (if r.hpPermitted then p.initial.hp else 0) ≤ s.cells[c].config.hpMax →
      s.openLot (.cell c) = none →
        ∃ v, (∀ x, v ≠ .refused x) ∧
          (v = .adjusted → r.hpPermitted = false ∧ 0 < p.initial.hp) ∧
          (v = .accepted → r.hpPermitted = true ∨ p.initial.hp = 0) ∧
          CellSettles c (.startJob (.cell c) i.1) 0x01 v s
          ((s.withProfiles { s.profiles with
            profiles := put (put s.profiles.profiles j (some (if q.keep then
                { q with
                  save := ⟨s.cells[c].working.flood, s.cells[c].working.hp,
                    s.cells[c].working.lots, s.cells[c].working.volume,
                    if q.presetStart = none then q.save.aux else s.cells[c].aux⟩
                  saveValid := true }
              else { q with initial := ⟨s.cells[c].working.flood, s.cells[c].working.hp,
                s.cells[c].working.lots, s.cells[c].working.volume,
                if q.presetStart = none then q.initial.aux else s.cells[c].aux⟩ }))) i
                (some { p with owner := some c }) }).withCells
              (put s.cells c { s.cells[c] with
                working := ⟨p.initial.flood, if r.hpPermitted then p.initial.hp else 0,
                  p.initial.lots, p.initial.volume⟩
                facts := some (r.facts p.priority)
                aux := aux
                active := some i
                stack := s.cells[c].stack ++ [j] })) fun t =>
            DemandsAsked s t c (s.withdrawnValve c)
              (demandOf p.initial.flood (if r.hpPermitted then p.initial.hp else 0)) v) ∧
    (∀ n, 64 ≤ n → CellDoes c (.startJob (.cell c) n) 0x01 (.refused .badValue) s s) ∧
    (∀ i : Fin 64, s.cells[c].state = .disabled →
      CellDoes c (.startJob (.cell c) i.1) 0x01 (.refused .disabled) s s) ∧
    (∀ i : Fin 64, s.cells[c].state = .paused →
      CellDoes c (.startJob (.cell c) i.1) 0x01 (.refused .busy) s s) ∧
    (∀ i : Fin 64, s.cells[c].state = .idle ∨ s.cells[c].state = .running →
      s.profiles.profiles[i] = none →
        CellDoes c (.startJob (.cell c) i.1) 0x01 (.refused .noProfile) s s) ∧
    (∀ (i : Fin 64) p d, s.cells[c].state = .idle ∨ s.cells[c].state = .running →
      s.profiles.profiles[i] = some p → p.owner = some d →
        CellDoes c (.startJob (.cell c) i.1) 0x01 (.refused .inUse) s s) ∧
    (∀ (i : Fin 64) p, s.cells[c].state = .running → s.profiles.profiles[i] = some p →
      p.owner = none → 3 ≤ s.cells[c].stack.length →
        CellDoes c (.startJob (.cell c) i.1) 0x01 (.refused .stackFull) s s) ∧
    (∀ (i : Fin 64) p, s.cells[c].state = .idle ∨
        (s.cells[c].state = .running ∧ s.cells[c].stack.length < 3) →
      s.profiles.profiles[i] = some p → p.owner = none →
      (s.recipes.lookup p.group p.recipeIndex = none →
        CellDoes c (.startJob (.cell c) i.1) 0x01 (.refused .noRecipe) s s) ∧
      ∀ r, s.recipes.lookup p.group p.recipeIndex = some r →
        (s.cells[c].config.floodMax < p.initial.flood ∨
            s.cells[c].config.hpMax < (if r.hpPermitted then p.initial.hp else 0) →
          CellDoes c (.startJob (.cell c) i.1) 0x01 (.refused .bounds) s s) ∧
        (p.initial.flood ≤ s.cells[c].config.floodMax →
          (if r.hpPermitted then p.initial.hp else 0) ≤ s.cells[c].config.hpMax →
          s.openLot (.cell c) ≠ none →
            CellDoes c (.startJob (.cell c) i.1) 0x01 (.refused .lotOpen) s s))

/-- Tier 2, derived (R28, R129, R153, R159, R160, R170, R171, R172; that a resumed job whose recipe
lookup fails has no facts and that the status is read after the first handling of the result is the
model's choice, logs 20 and 22). END_JOB with no open lot: the profile is finished and loses its
owner, a KEEP profile with its save half made invalid, any other with the working values written into
its initial half; the cell's coolant is withdrawn; the last suspended job is resumed from the save half
of a KEEP profile whose save half is valid, from the initial half otherwise, with the snapshot and the
preset list over it where PRESETS is set, its demands are requested, and its facts are those of a fresh
lookup, absent where that fails (log 20); or the cell becomes IDLE with its valves commanded to 0. An
open lot short of LOADING is cancelled first; refusals NO_JOB and BUSY. -/
def Obligations.EndJob : Prop :=
  ∀ (s : State) (c : Fin 8), s.roomAt (cellTx c) → s.part = .operating →
    (∀ (j : Fin 64) (p finished : Profile), s.hasJob c = true → s.openLot (.cell c) = none →
      s.cells[c].active = some j → s.profiles.profiles[j] = some p →
      finished = (if p.keep then { p with saveValid := false, owner := none }
        else { p with
          initial := ⟨s.cells[c].working.flood, s.cells[c].working.hp, s.cells[c].working.lots,
            s.cells[c].working.volume,
            if p.presetStart = none then p.initial.aux else s.cells[c].aux⟩
          owner := none }) →
      (s.cells[c].stack = [] → CellSettles c (.endJob (.cell c)) 0x02 .accepted s
        ((s.withProfiles { s.profiles with
          profiles := put s.profiles.profiles j
            (some finished) }).withCells
            (put s.cells c { s.cells[c] with
              active := none, facts := none, state := .idle, working := ⟨0, 0, 0, 0⟩ }))
        fun t => t.atRest c ∧ Withdrawn s t c) ∧
      (∀ rest k q half aux, s.cells[c].stack = rest ++ [k] → k ≠ j →
        s.profiles.profiles[k] = some q →
        half = (if q.keep = true ∧ q.saveValid = true then q.save else q.initial) →
        s.NewAux q s.cells[c].aux half.aux aux →
        ∃ v, (∀ x, v ≠ .refused x) ∧ v ≠ .adjusted ∧
          CellSettles c (.endJob (.cell c)) 0x02 v s
            ((s.withProfiles { s.profiles with
              profiles := put s.profiles.profiles j
                (some finished) }).withCells
                (put s.cells c { s.cells[c] with
                  active := some k
                  facts := (s.recipes.lookup q.group q.recipeIndex).map fun r => r.facts q.priority
                  state := .running
                  working := ⟨half.flood, half.hp, half.lots, half.volume⟩
                  aux := aux
                  stack := rest })) fun t =>
              DemandsAsked s t c (s.withdrawnValve c) (demandOf half.flood half.hp) v)) ∧
    (s.hasJob c = false → CellDoes c (.endJob (.cell c)) 0x02 (.refused .noJob) s s) ∧
    (∀ id l, s.hasJob c = true → s.openLot (.cell c) = some (id, l) → l.state = .loading →
      CellDoes c (.endJob (.cell c)) 0x02 (.refused .busy) s s) ∧
    (∀ id l, s.hasJob c = true → s.openLot (.cell c) = some (id, l) → l.state ≠ .loading →
      s.cells[c].stack = [] → ∃ t, CellAnswers c (.endJob (.cell c)) 0x02 .accepted s t ∧
        t.cells[c].state = .idle ∧ t.cells[c].active = none ∧ t.atRest c ∧ Withdrawn s t c ∧
        (∀ l', t.intake.lots[id] = some l' → l'.source = .flush) ∧
        (s.bankQuiet → LotCancelled s t id l)) ∧
    (∀ id l rest k q, s.hasJob c = true → s.openLot (.cell c) = some (id, l) →
      l.state ≠ .loading → s.cells[c].stack = rest ++ [k] → s.profiles.profiles[k] = some q →
      s.cells[c].active ≠ some k → ∃ v t, CellAnswers c (.endJob (.cell c)) 0x02 v s t ∧
        (∀ x, v ≠ .refused x) ∧ t.cells[c].state = .running ∧ t.cells[c].active = some k ∧
        t.cells[c].stack = rest ∧
        (∀ l', t.intake.lots[id] = some l' → l'.source = .flush) ∧
        (s.bankQuiet → LotCancelled s t id l))

/-- Tier 2, derived (R129, R173, R174; that the status is read after the first handling of the result
is the model's reading, log 22). PAUSE and CONTINUE in OPERATING: a pause withdraws the cell's coolant,
a continue requests the demands as the working values hold them. -/
def Obligations.PauseAndContinue : Prop :=
  ∀ (s : State) (c : Fin 8), s.roomAt (cellTx c) → s.part = .operating →
    (s.cells[c].state = .running →
      CellSettles c (.pause (.cell c)) 0x03 .accepted s
        (s.withCells (put s.cells c { s.cells[c] with state := .paused })) (fun t =>
          t.atRest c ∧ Withdrawn s t c) ∧
      CellDoes c (.continueJob (.cell c)) 0x04 .accepted s s) ∧
    (s.cells[c].state = .paused →
      CellDoes c (.pause (.cell c)) 0x03 .accepted s s ∧
      ∃ v, (∀ x, v ≠ .refused x) ∧ v ≠ .adjusted ∧ CellSettles c (.continueJob (.cell c)) 0x04 v s
        (s.withCells (put s.cells c { s.cells[c] with state := .running })) fun t =>
          DemandsAsked s t c (s.valve c)
            (demandOf s.cells[c].working.flood s.cells[c].working.hp) v) ∧
    (s.cells[c].state = .idle ∨ s.cells[c].state = .disabled →
      CellDoes c (.pause (.cell c)) 0x03 (.refused .noJob) s s ∧
      CellDoes c (.continueJob (.cell c)) 0x04 (.refused .noJob) s s)

/-- Tier 2, derived (R126, R127, R128; that the status is read after the first handling of the
result is the model's reading, log 22). SET_FLOOD and SET_HP in OPERATING on the cell's own port:
the demand is clamped to the cell's bound and stored; a PAUSED cell's is stored only; one at or
below the commanded grant lowers it and clears the valve's pending request; one above it enters a
request of the clamped value, which the handling of the evaluation serves or leaves pending, and the
status says which; the refusals of R126. -/
def Obligations.SetCoolant : Prop :=
  ∀ (s : State) (c : Fin 8) (k : ValveKind) (flow : Nat), s.roomAt (cellTx c) →
    s.part = .operating →
    (s.hasJob c = false →
      CellDoes c (coolantRow k (.cell c) flow) (coolantCode k) (.refused .noJob) s s) ∧
    (∀ f, s.hasJob c = true → k = .hp → s.cells[c].facts = some f → f.hpPermitted = false →
      CellDoes c (coolantRow k (.cell c) flow) (coolantCode k) (.refused .hpBarred) s s) ∧
    (∀ f, s.hasJob c = true → k = .hp → s.cells[c].facts = some f → f.hpPermitted = true →
      s.grants.hpFault = true →
      CellDoes c (coolantRow k (.cell c) flow) (coolantCode k) (.refused .hpFault) s s) ∧
    (∀ (f : JobFacts) (w : Nat), s.cells[c].facts = some f →
      (k = .flood ∨ (f.hpPermitted = true ∧ s.grants.hpFault = false)) →
      w = min flow (s.cells[c].config.bound k) →
      (s.cells[c].state = .paused →
        CellDoes c (coolantRow k (.cell c) flow) (coolantCode k)
          (if s.cells[c].config.bound k < flow then .adjusted else .accepted) s
          (s.storeDemand c k w)) ∧
      (s.cells[c].state = .running → w ≤ (s.valve c k).commanded →
        CellSettles c (coolantRow k (.cell c) flow) (coolantCode k)
          (if s.cells[c].config.bound k < flow then .adjusted else .accepted) s
          (s.storeDemand c k w) fun t =>
            (((t.valve c k).commanded = w ∧ (t.valve c k).pending = none) ∨
              ((t.valve c k).commanded < w ∧ ∃ p, (t.valve c k).pending = some p ∧ p.value = w ∧
                p.origin = .restore)) ∧
            (s.valvesOk → (t.valve c k).counted = (s.valve c k).counted) ∧
            (w < (s.valve c k).commanded →
              (s.bankQuiet → (t.valve c k).commanded = w →
                (t.valve c k).timer = .running s.grants.supply.settleTime) ∧
              ∃ r, Notice.grant (t.valve c .flood).commanded (t.valve c .hp).commanded r ∈
                  t.owedNotices c ∧
                (s.bankQuiet → s.requestsOk → (t.valve c k).commanded = w →
                  (∀ k', k' ≠ k → (t.valve c k').commanded = (s.valve c k').commanded) →
                    r = .requested))) ∧
      (s.cells[c].state = .running → (s.valve c k).commanded < w →
        ∃ v, (∀ x, v ≠ .refused x) ∧ (v = .accepted → flow ≤ s.cells[c].config.bound k) ∧
          (v = .adjusted → s.cells[c].config.bound k < flow) ∧
          CellSettles c (coolantRow k (.cell c) flow) (coolantCode k) v s (s.storeDemand c k w)
            fun t =>
              (((t.valve c k).commanded = w ∧ (t.valve c k).pending = none) ∨
                ((t.valve c k).commanded < w ∧
                  ∃ p, (t.valve c k).pending = some p ∧ p.value = w)) ∧
              (s.bankQuiet →
                (v = .accepted ∨ v = .adjusted → (t.valve c k).commanded = w ∧
                  (t.valve c k).pending = none) ∧
                (v = .reduced → k = .flood ∧ (s.valve c k).commanded < (t.valve c k).commanded ∧
                  (t.valve c k).commanded < w ∧ (t.valve c k).pending ≠ none) ∧
                (∀ b, v = .waiting b → (t.valve c k).commanded ≤ (s.valve c k).commanded ∧
                  ∃ p, (t.valve c k).pending = some p ∧ p.value = w ∧ p.bound = b ∧
                    p.origin = .request ∧ min s.grants.stamp 4294967295 ≤ p.stamp))))

/-- Tier 2, derived (R20, R22, R24, R25, R30 to R33, R35; that a notify byte above 1 is refused
where R24 has BAD_VALUE, before NO_JOB, is the model's choice, log 10). DISCHARGE in OPERATING: a
lot under the next free id with the cell's job facts, its flights and volume clamped, and, where no
other lot is PENDING, the pass that follows: the smallest window that meets R31 and R32 is reserved
and the volume committed, or the lot stays PENDING; the refusals of R24 in their order. -/
def Obligations.Discharge : Prop :=
  ∀ (s : State) (c : Fin 8) (n v flag : Nat), s.roomAt (cellTx c) → s.part = .operating →
    (n = 0 ∨ 1 < flag →
      CellDoes c (.discharge (.cell c) n v flag) 0x07 (.refused .badValue) s s) ∧
    (0 < n → flag ≤ 1 →
      (s.hasJob c = false →
        CellDoes c (.discharge (.cell c) n v flag) 0x07 (.refused .noJob) s s) ∧
      (s.hasJob c = true → s.openLot (.cell c) ≠ none →
        CellDoes c (.discharge (.cell c) n v flag) 0x07 (.refused .busy) s s) ∧
      (s.hasJob c = true → s.openLot (.cell c) = none →
        (s.outlets[cellTx c].gate = .fault →
          CellDoes c (.discharge (.cell c) n v flag) 0x07 (.refused .gateFault) s s) ∧
        (s.outlets[cellTx c].gate ≠ .fault →
          ((∀ i : Fin 32, s.intake.lots[i] ≠ none) ∨ s.intake.held ≠ none →
            CellDoes c (.discharge (.cell c) n v flag) 0x07 (.refused .lotsFull) s s) ∧
          (∀ f id, s.nextId = some id → s.intake.held = none → s.cells[c].facts = some f →
            ∃ t l, CellAnswers c (.discharge (.cell c) n v flag) 0x07
                (if f.maxFlights < n ∨ min n f.maxFlights * s.trunk.config.flightCapacity < v
                  then .adjusted else .accepted) s t ∧
              t.intake.lots[id] = some l ∧ l.source = .cell c ∧ l.flights = min n f.maxFlights ∧
              l.declared = min v (min n f.maxFlights * s.trunk.config.flightCapacity) ∧
              l.actual = none ∧ l.target = f.target ∧ l.purge = f.purge ∧
              l.jamAllowance = f.jamAllowance ∧ l.rank = .priority f.priority ∧
              l.stamp = s.intake.stamp ∧ l.notify = decide (flag = 1) ∧ l.state.isOpen = true ∧
              l.mixed = false ∧ t.cells = (s.touched c).cells ∧ Noticed s t ∧
              ((∀ (i : Fin 32) (x : Lot), s.intake.lots[i] = some x → x.state ≠ .pending) →
                (∀ d, d < s.trunk.config.carry → (s.trunk.flight d).lot? ≠ some id) →
                1 ≤ f.maxFlights → s.trunkOk = true → WindowTaken s t id l)))))

/-- Tier 2, derived (R22, R26, R27, R37, R46, R175; the model's choices: a presence byte above 1 is
refused BAD_VALUE before SEQUENCE, log 10, and a value behind presence byte 0 is ignored whatever its
bytes, log 38). DISCHARGE_END in OPERATING: SEQUENCE with no open lot;
a PENDING or RESERVED lot is cancelled, its flights EMPTY and its commitment released; a LOADING lot's
gate is commanded closed, its RESERVED flights above the outlet are EMPTY and the one under it LOADED,
and it is shortened to the flights loaded and goes IN_TRANSIT, its commitment reduced to the actual
volume, counted in the job's working values, or is cancelled where none loaded; the LOT notice of
each. -/
def Obligations.DischargeEnd : Prop :=
  ∀ (s : State) (c : Fin 8) (presence volume : Nat), s.roomAt (cellTx c) → s.part = .operating →
    (1 < presence →
      CellDoes c (.dischargeEnd (.cell c) presence volume) 0x08 (.refused .badValue) s s) ∧
    (presence ≤ 1 → s.openLot (.cell c) = none →
      CellDoes c (.dischargeEnd (.cell c) presence volume) 0x08 (.refused .sequence) s s) ∧
    (∀ id l, presence ≤ 1 → s.openLot (.cell c) = some (id, l) →
      (l.state ≠ .loading → ∃ t,
        CellAnswers c (.dischargeEnd (.cell c) presence volume) 0x08 .accepted s t ∧
        t.cells = (s.touched c).cells ∧ Noticed s t ∧ LotCancelled s t id l) ∧
      (∀ n o, l.state = .loading → o = s.cells[c].config.outletOffset → n = s.flightsLoaded id o →
        (n = 0 → ∃ t,
          CellAnswers c (.dischargeEnd (.cell c) presence volume) 0x08 .accepted s t ∧
          (∀ l', t.intake.lots[id] = some l' → l'.source = .flush) ∧
          t.cells = (s.touched c).cells ∧ Noticed s t ∧
          (s.LotsOk → LotEnded s t id l .cancelled) ∧
          (s.noneWaits (fun i => decide (i = id)) → t.intake.lots = put s.intake.lots id none ∧
            t.outlets = put s.outlets (cellTx c) (s.closedOutlet (cellTx c)) ∧
            t.bins = put s.bins l.target.bin
              (s.binWithout l.target.bin (l.actual.getD l.declared)))) ∧
        (0 < n → ∃ t,
          CellAnswers c (.dischargeEnd (.cell c) presence volume) 0x08
            (if presence = 1 ∧ l.declared < volume then .adjusted else .accepted) s t ∧
          t.intake.lots[id] = some { l with
            flights := n, short := true, state := .inTransit,
            actual := if presence = 1 then some (min volume l.declared) else none } ∧
          (s.cells[c].active ≠ none →
            t.cells[c].working.lots = min 65535 (s.cells[c].working.lots + 1) ∧
            t.cells[c].working.volume = min 16777215 (s.cells[c].working.volume +
              if presence = 1 then min volume l.declared else l.declared)) ∧
          Noticed s t ∧ LoadingCut s t id o ∧
          (l.notify = true → Notice.lot id .inTransit l.mixed true l.spilledInto l.contaminated ∈
            t.owedNotices c) ∧
          (s.noneWaits (fun i => decide (i = id)) →
            t.outlets = put s.outlets (cellTx c) (s.closedOutlet (cellTx c)) ∧
            t.bins = if presence = 1 then put s.bins l.target.bin
              (s.binWithout l.target.bin (l.declared - min volume l.declared)) else s.bins))))

/-! ### Plant control (chapter 11) -/

/-- Tier 2, derived (R19, R34, R74, R192). COMMISSION: SEQUENCE in OPERATING; BAD_CONFIG with the
first item that fails; otherwise the part is OPERATING, STATION halts the trunk, gates in use that
are not closed are in FAULT, the crusher is RUNNING and the routing at (4, CRUSH) takes its state
from the settled line. -/
def Obligations.Commission : Prop :=
  ∀ s : State, s.roomAt stationTx →
    (s.part = .operating →
      StationDoes (.commission .station) 0x20 (.refused .sequence) [] s s) ∧
    (∀ n, s.part = .config → s.itemFails n → (∀ m, m < n → ¬s.itemFails m) →
      StationDoes (.commission .station) 0x20 (.refused .badConfig) (u8 n) s s) ∧
    (∀ n, s.offendingItem = some n ↔ s.itemFails n ∧ ∀ m, m < n → ¬s.itemFails m) ∧
    (s.part = .config → s.trunkOk = true → s.trunk.config.carry < s.trunk.config.beltLength →
      (∀ c : Fin 8, s.cells[c].config.enabled = false) →
      s.offendingItem = some 4) ∧
    (s.part = .config → s.trunkOk = true → s.trunk.config.carry < s.trunk.config.beltLength →
      (∃ c : Fin 8, s.cells[c].config.enabled = true) →
      (∀ c : Fin 8, s.cells[c].config.enabled = true →
        4 ≤ s.cells[c].config.outletOffset ∧ s.cells[c].config.outletOffset < s.trunk.config.carry ∧
        s.cells[c].config.outletOffset ≠ s.trunk.config.flushOffset) →
      (∀ c d : Fin 8, s.cells[c].config.enabled = true → s.cells[d].config.enabled = true → c ≠ d →
        s.cells[c].config.outletOffset ≠ s.cells[d].config.outletOffset) →
      s.trunk.config.flushOffset < s.trunk.config.carry →
      ∃ t, StationAnswers (.commission .station) 0x20 .accepted [] s t ∧ t.part = .operating ∧
        t.trunk.map = s.trunk.map ∧ t.trunk.head = s.trunk.head ∧ t.trunk.belt = s.trunk.belt ∧
        t.trunk.registered = s.trunk.registered ∧ t.trunk.overloadCount = 0 ∧
        t.trunk.registration = false ∧ t.trunk.halt.station = true ∧ t.trunk.halt.jam = false ∧
        t.trunk.halt.blocked = false ∧ t.trunk.halt.overload = false ∧
        t.crusher = { s.crusher with state := .running } ∧
        (∀ o : Fin 9, t.outlets[o] = if s.outletInUse o && !s.inputs.gateClosed[o] then
          { s.outlets[o] with gate := .fault, spill := true } else s.outlets[o]) ∧
        (s.routing.position = .reject → (∀ d, s.trunk.flight d = .untracked) →
          t.routing.position = .reject ∧
          (s.inputs.routingSettled = true → t.routing.state = .settled) ∧
          (s.inputs.routingSettled = false → t.routing.state = .moving ∧
            t.routing.timer = .running s.delivery.routingTime)) ∧
        t.cells = s.cells ∧ t.bins = s.bins ∧ t.samples = s.samples ∧ t.filter = s.filter ∧
        t.balance = s.balance ∧ t.grants = s.grants ∧ t.recipes = s.recipes ∧
        t.profiles = s.profiles ∧ t.plant.enables = s.plant.enables ∧ t.outputs.conveyorRun = false ∧
        Quiet s t)

/-- Tier 2, derived (R19, R48, R74, R105, R148, R193). DECOMMISSION: SEQUENCE in CONFIG, BUSY while
a cell has a job, a lot stands in the table or a unit flushes; otherwise CONFIG with every block at
rest. -/
def Obligations.Decommission : Prop :=
  ∀ s : State, s.roomAt stationTx →
    (s.part = .config →
      StationDoes (.decommission .station) 0x21 (.refused .sequence) [] s s) ∧
    (s.part = .operating → ((∃ c, s.hasJob c = true) ∨ (∃ i : Fin 32, s.intake.lots[i] ≠ none) ∨
        ∃ u : Fin 6, s.filter.units[u].state = .flushReady ∨ s.filter.units[u].state = .flushing) →
      StationDoes (.decommission .station) 0x21 (.refused .busy) [] s s) ∧
    (s.part = .operating → (∀ c, s.hasJob c = false) → (∀ i : Fin 32, s.intake.lots[i] = none) →
      (∀ u : Fin 6, s.filter.units[u].state ≠ .flushReady ∧ s.filter.units[u].state ≠ .flushing) →
      ∃ t, StationAnswers (.decommission .station) 0x21 .accepted [] s t ∧ t.part = .config ∧
        (∀ i : Fin 256, t.trunk.map[i] = .untracked) ∧ t.trunk.head = s.trunk.head ∧
        t.trunk.belt = 0 ∧ t.trunk.registered = false ∧
        t.trunk.halt = ⟨true, false, false, false, false, false⟩ ∧ t.trunk.overloadCount = 0 ∧
        t.trunk.registration = false ∧ t.trunk.config = s.trunk.config ∧
        t.intake = ⟨s.intake.lots, 0, none⟩ ∧
        (∀ o : Fin 9, t.outlets[o] = ⟨.closed, .stopped, false, s.outlets[o].closeTime⟩) ∧
        t.crusher = ⟨.running, [], false, s.delivery.untrackedAllowance, .stopped, .stopped,
          .stopped, 0⟩ ∧
        t.routing = ⟨⟨4, .crush⟩, .moving, .stopped⟩ ∧ t.bins = s.bins ∧
        (∀ u : Fin 6, t.filter.units[u].state = .offline ∧ t.filter.units[u].forced = false ∧
          t.filter.units[u].postCheck = false) ∧ t.filter.slot = none ∧
        (∀ i : Fin 32, t.filter.begun[i] = false) ∧ t.filter.lastCheck = none ∧
        (∀ c k, t.valve c k = ⟨(s.valve c k).commanded, (s.valve c k).commanded, none, .stopped⟩) ∧
        t.grants.shed = ⟨.idle, s.grants.shed.stepCount, none, .stopped⟩ ∧ t.grants.stamp = 0 ∧
        t.grants.lowlow = false ∧ t.grants.hpFault = false ∧ t.grants.floodFault = false ∧
        t.grants.hpCount = 0 ∧ t.grants.floodCount = 0 ∧
        t.cells = s.cells ∧ t.samples = s.samples ∧ t.profiles = s.profiles ∧
        t.recipes = s.recipes ∧ t.delivery = s.delivery ∧ t.balance.sticky = s.balance.sticky ∧
        t.balance.hold = s.balance.hold ∧ t.plant.enables = s.plant.enables ∧
        t.outputs.conveyorRun = false ∧ t.outputs.crusherForward = false ∧
        t.outputs.crusherReverse = false ∧ Quiet s t)

/-- Tier 2, derived (R19, R48, R64, R65, R74, R87, R105, R109, R122, R148, R160, R162, R178, R190,
R194, R197; that RESTART makes no evaluation is the model's reading, log 26). RESTART: NOT_READY in
CONFIG; in OPERATING every block takes its restart effects: trunk, lots and gates, crusher, routing
and bins, samples, filter bank, balance, arbiter with its notices, stores, cells, links, alert
flags; of the notices that wait, the LOT notices are removed and the GRANT notices kept. -/
def Obligations.Restart : Prop :=
  ∀ s : State, s.roomAt stationTx →
    (s.part = .config →
      StationDoes (.restart .station) 0x22 (.refused .notReady) [] s s) ∧
    (s.part = .operating → ∃ t, StationAnswers (.restart .station) 0x22 .accepted [] s t ∧
      t.part = .operating ∧ (∀ d, d < s.trunk.config.carry → t.trunk.flight d = .untracked) ∧
      t.trunk.head = s.trunk.head ∧ t.trunk.belt = s.trunk.belt ∧
      t.trunk.registered = s.trunk.registered ∧ t.trunk.halt.station = true ∧
      t.trunk.halt.jam = false ∧ t.trunk.halt.blocked = false ∧ t.trunk.halt.overload = false ∧
      t.trunk.overloadCount = 0 ∧ t.trunk.registration = false ∧
      (∀ i : Fin 32, t.intake.lots[i] = none) ∧ t.intake.stamp = 0 ∧ t.intake.held = none ∧
      (∀ o : Fin 9, t.outlets[o].gate ≠ .isOpen) ∧
      (∀ o : Fin 9, t.outlets[o] =
        if s.outlets[o].gate = .isOpen ∨ s.outlets[o].gate = .closing then
          (if s.inputs.gateClosed[o] then ⟨.closed, .stopped, false, s.outlets[o].closeTime⟩
          else { s.outlets[o] with
            gate := .closing, timer := .running s.outlets[o].closeTime })
        else s.outlets[o]) ∧
      (s.trunkOk = true →
        t.routing = (if s.crusher.residents = [] ∧ s.crusher.untracked = false ∧
            s.routing.position ≠ ⟨4, .crush⟩ then ⟨⟨4, .crush⟩, .moving, .running s.delivery.routingTime⟩
          else s.routing) ∧
        (t.trunk.halt.routing = true ↔
          ¬(t.routing.state = .settled ∧ t.routing.position = ⟨4, .crush⟩)) ∧
        (t.trunk.halt.bin = true ↔ t.bins[(4 : Fin 5)].state = .released ∨
          t.bins[(4 : Fin 5)].state = .absent ∨ t.bins[(4 : Fin 5)].state = .presentWait)) ∧
      t.crusher.reverse = .stopped ∧ t.crusher.probe = .stopped ∧
      t.crusher.allowance = (if (s.crusher.residents = [] ∧ s.crusher.untracked = false) ∨
          (s.crusher.untracked = true ∧ 0 < s.crusher.allowance) then s.crusher.allowance
        else s.delivery.untrackedAllowance) ∧
      t.delivery = s.delivery ∧ t.trunk.config = s.trunk.config ∧ t.inputs = s.inputs ∧
      t.crusher.state = .running ∧
      t.crusher.residents = [] ∧ t.crusher.jamCount = 0 ∧
      (s.crusher.residents = [] → s.crusher.untracked = false →
        t.crusher.untracked = false ∧ t.crusher.drain = .stopped) ∧
      (s.crusher.residents ≠ [] ∨ s.crusher.untracked = true →
        t.crusher.untracked = true ∧ t.crusher.drain = .running (15 * s.trunk.config.pitchPeriod)) ∧
      (∀ b : Fin 5, t.bins[b] = { s.bins[b] with
        committed := 0
        state := if s.bins[b].state = .closing then .released else s.bins[b].state }) ∧
      (∀ c : Fin 14, t.samples.channels[c] = ⟨0, true, .noValue⟩) ∧
      t.samples.clean = ⟨.agree, 0, true, .none, 0, false, 0⟩ ∧
      t.samples.dirty = ⟨.agree, 0, true, .none, 0, false, 0⟩ ∧ t.samples.stale = false ∧
      t.samples.timer = .running s.samples.config.staleness ∧
      t.samples.lastSet = s.samples.lastSet ∧ t.samples.config = s.samples.config ∧
      ((∀ u : Fin 6, s.filter.units[u].state ≠ .flushing) → t.filter.slot = none) ∧
      (∀ u : Fin 6, s.filter.units[u].state = .flushing →
        (∀ w : Fin 6, w.1 < u.1 → s.filter.units[w].state ≠ .flushing) → t.filter.slot = some u) ∧
      (∀ i : Fin 32, t.filter.begun[i] = false) ∧ t.filter.sludge = s.filter.sludge ∧
      t.balance.record = { s.balance.record with
        sumFlood := 0
        sumHp := 0
        hTotal := s.balance.record.total
        hPolish := s.balance.record.polish
        deficit := false
        polishBound := decide (s.balance.record.polish < s.balance.record.total) } ∧
      t.balance.evalCount = s.balance.evalCount ∧ t.balance.masked = s.balance.masked ∧
      t.balance.config = s.balance.config ∧
      t.grants.shed = ⟨.idle, s.grants.shed.stepCount, none, .stopped⟩ ∧ t.grants.stamp = 0 ∧
      t.grants.hpCount = 0 ∧ t.grants.floodCount = 0 ∧ t.grants.supply = s.grants.supply ∧
      (∀ c : Fin 8, 0 < (s.valve c .flood).commanded ∨ 0 < (s.valve c .hp).commanded →
        Notice.grant 0 0 .restart ∈ t.owedNotices c) ∧
      (∀ c : Fin 8, (s.valve c .flood).commanded = 0 → (s.valve c .hp).commanded = 0 →
        ∀ f h, Notice.grant f h .restart ∈ t.owedNotices c →
          Notice.grant f h .restart ∈ s.owedNotices c) ∧
      (∀ (c : Fin 8) (id : Fin 32) (st : LotState) (mi sh sp co : Bool),
        Notice.lot id st mi sh sp co ∉ t.links.notices[c]) ∧
      (∀ (c : Fin 8) (kept : List Notice), kept = s.links.notices[c].filter (fun n => !n.isLot) →
        ((∀ k, (s.valve c k).commanded = 0) → t.owedNotices c = s.sentNotice c ++ kept) ∧
        ((∃ k, 0 < (s.valve c k).commanded) → t.owedNotices c = s.sentNotice c ++
          if kept = [] then [.grant 0 0 .restart] else kept.map fun _ => .grant 0 0 .restart)) ∧
      (∀ i : Fin 64, t.profiles.profiles[i] = (s.profiles.profiles[i]).map fun p =>
        if p.owner = none then p else { p with owner := none, saveValid := false }) ∧
      t.profiles.extents = s.profiles.extents ∧
      (∀ u : Fin 6, t.filter.units[u] =
        if s.filter.units[u].state = .flushWait ∨ s.filter.units[u].state = .flushReady then
          { s.filter.units[u] with state := .online, forced := false } else s.filter.units[u]) ∧
      t.filter.lastCheck = none ∧ t.balance.sticky = ⟨false, false, false, false⟩ ∧
      t.balance.hold = false ∧ (∀ c : Fin 8, t.balance.markers[c] = false) ∧
      (∀ c k, t.valve c k = ⟨0, 0, none, .stopped⟩) ∧ t.grants.shed.state = .idle ∧
      t.grants.hpFault = false ∧ t.grants.floodFault = false ∧ t.grants.lowlow = false ∧
      (∀ (i : Fin 64) p, t.profiles.profiles[i] = some p → p.owner = none) ∧
      t.profiles.memory = s.profiles.memory ∧ t.recipes = s.recipes ∧
      (∀ c : Fin 8, t.cells[c] = { s.cells[c] with
        state := if s.cells[c].config.enabled then .idle else .disabled
        restored := false, active := none, stack := [], working := ⟨0, 0, 0, 0⟩
        aux := Vector.replicate 8 0, facts := none }) ∧
      t.links.image = none ∧ t.plant.enables = s.plant.enables ∧
      (∀ a : AlertSource, t.plant.flags[a.index] = t.alertActive a))

/-- Tier 2, derived (R195, R196). SET_ALERT_ENABLES and CLEAR_ALERTS: the flag of every source. -/
def Obligations.AlertRequests : Prop :=
  ∀ s : State, s.roomAt stationTx → s.flagsOk →
    (∀ e : Vector Nat 15, (∃ i : Fin 15, 1 < e[i]) →
      StationDoes (.setAlertEnables .station e) 0x68 (.refused .badValue) [] s s) ∧
    (∀ e : Vector Nat 15, (∀ i : Fin 15, e[i] ≤ 1) → ∃ t,
      StationAnswers (.setAlertEnables .station e) 0x68 .accepted [] s t ∧
      (∀ i : Fin 15, t.plant.enables[i] = decide (e[i] = 1)) ∧
      t.inner = (s.withPlant { s.plant with enables := t.plant.enables }).inner ∧ Quiet s t ∧
      t.plant.flags[AlertSource.blocked.index] = s.plant.flags[AlertSource.blocked.index] ∧
      ∀ a : AlertSource, a ≠ .blocked → t.plant.flags[a.index] =
        (if t.plant.enables[a.index] && s.plant.enables[a.index] then s.plant.flags[a.index]
        else s.alertActive a)) ∧
    (∀ x, ∃ t, StationAnswers (.clearAlerts .station x) 0x69 .accepted [] s t ∧
      t.inner = s.inner ∧ Quiet s t ∧ ∀ a : AlertSource, t.plant.flags[a.index] =
        (if x.testBit a.index.1 && s.isLatched a && !s.alertActive a then false
        else s.plant.flags[a.index]))

/-! ### Configuration and stores (chapters 1, 3, 4, 5, 6, 7, 8, 9) -/

/-- Tier 2, derived (R2, R13, R49, R65, R76, R106, R107, R123; that BUSY in OPERATING comes before
BAD_VALUE in R2, R49 and R123, and that the bin condition is examined in CONFIG too, is the model's
choice, logs 9 and 15). The configuration writes taken in
CONFIG only, with the ranges of their fields: BUSY in OPERATING, BAD_VALUE for a field out of range,
the record replaced; WRITE_TANK_CONFIG is followed by one evaluation, WRITE_BIN_CONFIG sets
allowance, fills and bin states under the new record, and a change of a bin's state has the bin
condition examined. -/
def Obligations.ConfigurationWrites : Prop :=
  ∀ s : State, s.roomAt stationTx →
    (s.part = .operating → ∀ c d e f g,
      StationDoes (.writeTrunkConfig .station c) 0x30 (.refused .busy) [] s s ∧
      StationDoes (.writeCellConfigSupply .station d) 0x31 (.refused .busy) [] s s ∧
      StationDoes (.writeSensorConfig .station e) 0x35 (.refused .busy) [] s s ∧
      StationDoes (.writeTankConfig .station f) 0x33 (.refused .busy) [] s s ∧
      StationDoes (.writeBinConfig .station g) 0x34 (.refused .busy) [] s s) ∧
    (s.part = .config → ∀ c,
      (trunkConfigOk c = true → StationDoes (.writeTrunkConfig .station c) 0x30 .accepted [] s
        (s.withTrunk { s.trunk with
          config := c, belt := 0, registered := false, overloadCount := 0, registration := false })) ∧
      (trunkConfigOk c = false →
        StationDoes (.writeTrunkConfig .station c) 0x30 (.refused .badValue) [] s s)) ∧
    (s.part = .config → ∀ c,
      (supplyConfigOk c = true → StationDoes (.writeCellConfigSupply .station c) 0x31 .accepted [] s
        (s.withGrants { s.grants with supply := c })) ∧
      (supplyConfigOk c = false →
        StationDoes (.writeCellConfigSupply .station c) 0x31 (.refused .badValue) [] s s)) ∧
    (s.part = .config → ∀ c,
      (∀ x, sensorConfigOf c = some x → StationDoes (.writeSensorConfig .station c) 0x35 .accepted []
        s (s.withSamples { s.samples with config := x })) ∧
      (sensorConfigOf c = none →
        StationDoes (.writeSensorConfig .station c) 0x35 (.refused .badValue) [] s s)) ∧
    (s.part = .config →
      (∀ c, tankConfigOk c = false →
        StationDoes (.writeTankConfig .station c) 0x33 (.refused .badValue) [] s s) ∧
      (∀ c, tankConfigOk c = true → StationSettles (.writeTankConfig .station c) 0x33 .accepted s
        (s.withBalance { s.balance with config := c }) fun t =>
          BalanceFigures t ∧ t.balance.evalCount = (s.balance.evalCount + 1) % 65536 ∧
          t.grants = s.grants ∧ t.trunk = s.trunk) ∧
      (∀ c, deliveryConfigOk c = false →
        StationDoes (.writeBinConfig .station c) 0x34 (.refused .badValue) [] s s) ∧
      (∀ c, deliveryConfigOk c = true → StationSettles (.writeBinConfig .station c) 0x34 .accepted s
        (((s.withDelivery c).withCrusher { s.crusher with allowance := c.untrackedAllowance }).withBins
          (Vector.ofFn fun b : Fin 5 =>
            let fill := if b.1 < 4 then min s.bins[b].fill (c.capacity[b] - s.bins[b].committed)
              else s.bins[b].fill
            { s.bins[b] with
              fill := fill
              state :=
                if s.bins[b].state = .inService ∧ c.capacity[b] ≤ fill then .full
                else if s.bins[b].state = .full ∧ fill < c.capacity[b] then .inService
                else s.bins[b].state })) fun t =>
          (∃ b : Fin 5, t.bins[b].state ≠ s.bins[b].state) → s.configOk → t.BinShown)) ∧
    (∀ c, trunkConfigOk c = true ↔ 16 ≤ c.carry ∧ c.carry ≤ 192 ∧ 40 ≤ c.beltLength ∧
      c.beltLength ≤ 600 ∧ 2 ≤ c.routingLead ∧ c.routingLead ≤ 4 ∧ 1 ≤ c.gateLead ∧ c.gateLead ≤ 8 ∧
      4 ≤ c.flushOffset ∧ c.flushOffset ≤ 191 ∧ c.tolerance ≤ 3 ∧ c.overloadLimit ≤ 65535 ∧
      1 ≤ c.overloadSets ∧ c.overloadSets ≤ 20 ∧ 5 ≤ c.flightCapacity ∧ c.flightCapacity ≤ 200 ∧
      200 ≤ c.pitchPeriod ∧ c.pitchPeriod ≤ 5000) ∧
    (∀ c, supplyConfigOk c = true ↔ 200 ≤ c.settleTime ∧ c.settleTime ≤ 10000 ∧ c.hpLow ≤ 1000 ∧
      c.floodLow ≤ 1000) ∧
    (∀ c x, sensorConfigOf c = some x ↔ c.cleanAutoClear ≤ 1 ∧ c.dirtyAutoClear ≤ 1 ∧
      (∀ i : Fin 14, c.spans[i].lo ≤ c.spans[i].hi ∧ c.spans[i].hi ≤
        (if i.1 < 6 ∨ 12 ≤ i.1 then 1000 else if i.1 < 10 then 4000 else 65535)) ∧
      150 ≤ c.staleness ∧ c.staleness ≤ 2000 ∧ 1 ≤ c.cleanTolerance ∧ c.cleanTolerance ≤ 500 ∧
      1 ≤ c.dirtyTolerance ∧ c.dirtyTolerance ≤ 500 ∧
      x = ⟨c.spans, c.staleness, c.cleanTolerance, c.dirtyTolerance, decide (c.cleanAutoClear = 1),
        decide (c.dirtyAutoClear = 1)⟩) ∧
    (∀ c, tankConfigOk c = true ↔ 1 ≤ c.cleanArea ∧ c.cleanArea ≤ 10000 ∧ 1 ≤ c.dirtyArea ∧
      c.dirtyArea ≤ 10000 ∧ c.vLow ≤ 400000 ∧ c.vLowLow ≤ 400000 ∧ c.vDirtyHigh ≤ 400000 ∧
      60 ≤ c.horizon ∧ c.horizon ≤ 1800 ∧ c.margin ≤ 5000 ∧ c.vLowLow ≤ c.vLow) ∧
    (∀ c, deliveryConfigOk c = true ↔
      (∀ b : Fin 5, 100 ≤ c.capacity[b] ∧ c.capacity[b] ≤ 60000) ∧ c.jamThreshold ≤ 65535 ∧
      1 ≤ c.jamSets ∧ c.jamSets ≤ 10 ∧ 1 ≤ c.untrackedAllowance ∧ c.untrackedAllowance ≤ 7 ∧
      500 ≤ c.reverseTime ∧ c.reverseTime ≤ 10000 ∧ 500 ≤ c.probeTime ∧ c.probeTime ≤ 5000 ∧
      500 ≤ c.routingTime ∧ c.routingTime ≤ 10000)

/-- Tier 2, derived (R34, R164; that a write clears enabled where the flag goes from set to clear is
the model's reading, log 29). WRITE_CELL_CONFIG naming a cell: the record and the close time
replaced, DISABLED and IDLE as the enabled flag goes, an outlet taken into use with its gate not
closed in FAULT; BAD_VALUE, BUSY and BAD_CONFIG. -/
def Obligations.CellConfigWrites : Prop :=
  ∀ (s : State) (w : CellConfigWrite), s.roomAt stationTx →
    (∀ n, 8 ≤ n → StationDoes (.writeCellConfig .station n w) 0x31 (.refused .badValue) [] s s) ∧
    (∀ c : Fin 8, cellConfigOf w = none →
      StationDoes (.writeCellConfig .station c.1 w) 0x31 (.refused .badValue) [] s s) ∧
    (∀ (c : Fin 8) x, cellConfigOf w = some x →
      (s.part = .operating → s.hasJob c = true →
        StationDoes (.writeCellConfig .station c.1 w) 0x31 (.refused .busy) [] s s) ∧
      (s.part = .operating → s.hasJob c = false → s.outlets[cellTx c].gate ≠ .closed →
        ((s.cells[c].config.enabled = true ∧ x.enabled = false) ∨
          x.outletOffset ≠ s.cells[c].config.outletOffset) →
        StationDoes (.writeCellConfig .station c.1 w) 0x31 (.refused .busy) [] s s) ∧
      (s.part = .operating → s.hasJob c = false → s.outlets[cellTx c].gate = .closed →
        x.enabled = true →
        (s.trunk.config.carry ≤ x.outletOffset ∨ x.outletOffset = s.trunk.config.flushOffset ∨
          ∃ d, d ≠ c ∧ s.cells[d].config.enabled = true ∧
            s.cells[d].config.outletOffset = x.outletOffset) →
        StationDoes (.writeCellConfig .station c.1 w) 0x31 (.refused .badConfig) [] s s) ∧
      (s.part = .config ∨ (s.hasJob c = false ∧
          (s.outlets[cellTx c].gate = .closed ∨
            ((s.cells[c].config.enabled = true → x.enabled = true) ∧
              x.outletOffset = s.cells[c].config.outletOffset)) ∧
          (x.enabled = true → x.outletOffset < s.trunk.config.carry ∧
            x.outletOffset ≠ s.trunk.config.flushOffset ∧
            ∀ d, d ≠ c → s.cells[d].config.enabled = true →
              s.cells[d].config.outletOffset ≠ x.outletOffset)) →
        (s.part = .config ∨ s.cells[c].config.enabled = true ∨ x.enabled = false ∨
            s.outlets[cellTx c].gate = .fault ∨ s.inputs.gateClosed[cellTx c] = true →
          StationDoes (.writeCellConfig .station c.1 w) 0x31 .accepted [] s
            ((s.withCells (put s.cells c { s.cells[c] with
              config := x
              state := if s.cells[c].config.enabled = x.enabled then s.cells[c].state
                else if x.enabled then .idle else .disabled })).withOutlets
              (put s.outlets (cellTx c) { s.outlets[cellTx c] with closeTime := x.closeTime }))) ∧
        (s.part = .operating → s.cells[c].config.enabled = false → x.enabled = true →
          s.outlets[cellTx c].gate ≠ .fault → s.inputs.gateClosed[cellTx c] = false →
          ∃ t, StationAnswers (.writeCellConfig .station c.1 w) 0x31 .accepted [] s t ∧
            t.cells = put s.cells c { s.cells[c] with config := x, state := .idle } ∧
            t.outlets[cellTx c] = ⟨.fault, .stopped, true, x.closeTime⟩ ∧ Noticed s t))) ∧
    (∀ x, cellConfigOf w = some x ↔ w.enabled ≤ 1 ∧ 4 ≤ w.outletOffset ∧ w.outletOffset ≤ 191 ∧
      100 ≤ w.closeTime ∧ w.closeTime ≤ 5000 ∧ w.floodMax ≤ 65535 ∧ w.hpMax ≤ 65535 ∧
      w.floor ≤ w.floodMax ∧ 500 ≤ w.linkTimeout ∧ w.linkTimeout ≤ 10000 ∧
      x = ⟨decide (w.enabled = 1), w.outletOffset, w.closeTime, w.floodMax, w.hpMax, w.floor,
        w.linkTimeout⟩)

/-- Tier 2, derived (R89, R90; that a field out of range is refused before BUSY is the model's
choice, log 9). WRITE_FILTER_CONFIG naming a unit and naming SLUDGE. -/
def Obligations.FilterConfigWrites : Prop :=
  ∀ s : State, s.roomAt stationTx →
    (∀ n c, 6 ≤ n → StationDoes (.writeFilterConfig .station n c) 0x32 (.refused .badValue) [] s s) ∧
    (∀ (u : Fin 6) c, unitConfigOk c = false →
      StationDoes (.writeFilterConfig .station u.1 c) 0x32 (.refused .badValue) [] s s) ∧
    (∀ (u : Fin 6) c, unitConfigOk c = true →
      (s.part = .operating → s.filter.units[u].state ≠ .offline →
        StationDoes (.writeFilterConfig .station u.1 c) 0x32 (.refused .busy) [] s s) ∧
      (s.part = .config ∨ s.filter.units[u].state = .offline →
        StationDoes (.writeFilterConfig .station u.1 c) 0x32 .accepted [] s
          (s.withFilter { s.filter with
            units := put s.filter.units u { s.filter.units[u] with config := c } }))) ∧
    (∀ c, sludgeSettingsOk c = false →
      StationDoes (.writeFilterConfigSludge .station c) 0x32 (.refused .badValue) [] s s) ∧
    (∀ c, sludgeSettingsOk c = true →
      (s.part = .operating → (s.filter.slot ≠ none ∨ ∃ i : Fin 32, s.filter.begun[i] = true) →
        StationDoes (.writeFilterConfigSludge .station c) 0x32 (.refused .busy) [] s s) ∧
      (s.part = .config ∨ (s.filter.slot = none ∧ ∀ i : Fin 32, s.filter.begun[i] = false) →
        StationDoes (.writeFilterConfigSludge .station c) 0x32 .accepted [] s
          ((s.withFilter { s.filter with sludge := c }).withOutlets
            (put s.outlets 8 { s.outlets[(8 : Fin 9)] with closeTime := c.closeTime })))) ∧
    (∀ c, unitConfigOk c = true ↔ c.ratedFlow ≤ 65535 ∧ c.dpClean ≤ 1000 ∧ c.dpMax ≤ 1000 ∧
      c.dpFlush ≤ 1000 ∧ 5 ≤ c.flushTime ∧ c.flushTime ≤ 900) ∧
    (∀ c, sludgeSettingsOk c = true ↔ 1 ≤ c.flights ∧ c.flights ≤ 8 ∧ c.volume ≤ 65535 ∧
      100 ≤ c.closeTime ∧ c.closeTime ≤ 5000)

/-- Tier 2, derived (R149, R150). WRITE_GROUP and WRITE_RECIPE. -/
def Obligations.RecipeStoreWrites : Prop :=
  ∀ s : State, s.roomAt stationTx →
    (∀ g base count, s.part = .operating →
      StationDoes (.writeGroup .station g base count) 0x36 (.refused .busy) [] s s) ∧
    (∀ g base count, s.part = .config →
      (15 < g ∨ 127 < base ∨ 32 < count ∨ 128 < base + count) →
      StationDoes (.writeGroup .station g base count) 0x36 (.refused .badValue) [] s s) ∧
    (∀ (g : Fin 16) base count, s.part = .config → base ≤ 127 → count ≤ 32 → base + count ≤ 128 →
      StationDoes (.writeGroup .station g.1 base count) 0x36 .accepted [] s
        (s.withRecipes { s.recipes with groups := put s.recipes.groups g ⟨base, count⟩ })) ∧
    (∀ n c, s.part = .operating →
      StationDoes (.writeRecipe .station n c) 0x37 (.refused .busy) [] s s) ∧
    (∀ n c, s.part = .config → (127 < n ∨ 3 < c.bin ∨ 1 < c.mode ∨ 15 < c.purge ∨
        c.jamAllowance = 0 ∨ 7 < c.jamAllowance ∨ 1 < c.hpPermitted ∨ c.maxFlights = 0 ∨
        16 < c.maxFlights) →
      StationDoes (.writeRecipe .station n c) 0x37 (.refused .badValue) [] s s) ∧
    (∀ (i : Fin 128) (c : RecipeWrite) (b : Fin 4), s.part = .config → c.bin = b.1 → c.mode ≤ 1 →
      c.purge ≤ 15 → 1 ≤ c.jamAllowance → c.jamAllowance ≤ 7 → c.hpPermitted ≤ 1 →
      1 ≤ c.maxFlights → c.maxFlights ≤ 16 →
      StationDoes (.writeRecipe .station i.1 c) 0x37 .accepted [] s
        (s.withRecipes { s.recipes with
          recipes := put s.recipes.recipes i ⟨b, if c.mode = 0 then .crush else .bypass, c.purge,
            c.jamAllowance, decide (c.hpPermitted = 1), c.maxFlights⟩ }))

/-- Tier 2, derived (R153, R157). WRITE_PRESETS in either part state: the bytes of the run, and no
other, are written; a run of no byte, above 44 bytes, beyond address 511, or into an extent is
refused. -/
def Obligations.PresetWrites : Prop :=
  ∀ (s : State) (a : Nat) (run : List Byte), s.roomAt stationTx → s.memoryOk = true →
    (run = [] ∨ 44 < run.length ∨ 511 < a ∨ 512 < a + run.length →
      StationDoes (.writePresets .station a run) 0x38 (.refused .badValue) [] s s) ∧
    (run ≠ [] → run.length ≤ 44 → a ≤ 511 → a + run.length ≤ 512 →
      ((∃ (p : Fin 64) (e : Extent) (k : Nat), s.profiles.extents[p] = some e ∧ k < run.length ∧
          e.first ≤ a + k ∧ a + k ≤ e.last) →
        StationDoes (.writePresets .station a run) 0x38 (.refused .inUse) [] s s) ∧
      ((∀ (p : Fin 64) (e : Extent) (k : Nat), s.profiles.extents[p] = some e → k < run.length →
          ¬(e.first ≤ a + k ∧ a + k ≤ e.last)) →
        ∃ t, StationAnswers (.writePresets .station a run) 0x38 .accepted [] s t ∧ Quiet s t ∧
          t.profiles.profiles = s.profiles.profiles ∧ t.profiles.extents = s.profiles.extents ∧
          (∀ x, Memory.read t.profiles.memory x =
            if h : a ≤ x ∧ x - a < run.length then run[x - a] else Memory.read s.profiles.memory x) ∧
          t.memoryOk = true ∧ t.inner.withProfiles s.profiles = s.inner))

/-- Tier 2, derived (R153, R154, R155; that a KEEP or PRESETS byte above 1 is refused BAD_VALUE
before IN_USE is the model's choice, log 10). WRITE_PROFILE in either part state: the profile
replaced whole, its extent that of its list; BAD_VALUE, IN_USE and BAD_PRESET in that order; and the
walk that finds a list valid. -/
def Obligations.ProfileWrites : Prop :=
  ∀ (s : State) (c : ProfileWrite), s.roomAt stationTx →
    (∀ n, (63 < n ∨ 15 < c.group ∨ 31 < c.recipeIndex ∨ 7 < c.priority ∨ 1 < c.keep ∨
        1 < c.presets ∨ (c.presets = 1 ∧ 511 < c.presetStart)) →
      StationDoes (.writeProfile .station n c) 0x39 (.refused .badValue) [] s s) ∧
    (∀ (i : Fin 64) (g : Fin 16), c.group = g.1 → c.recipeIndex ≤ 31 → c.priority ≤ 7 →
      c.keep ≤ 1 →
      (∀ p d, (c.presets = 0 ∨ (c.presets = 1 ∧ c.presetStart ≤ 511)) →
        s.profiles.profiles[i] = some p → p.owner = some d →
        StationDoes (.writeProfile .station i.1 c) 0x39 (.refused .inUse) [] s s) ∧
      (c.presets = 1 → c.presetStart ≤ 511 → presetList s.profiles.memory c.presetStart = none →
        (∀ p, s.profiles.profiles[i] = some p → p.owner = none) →
        StationDoes (.writeProfile .station i.1 c) 0x39 (.refused .badPreset) [] s s) ∧
      (c.presets = 0 → (∀ p, s.profiles.profiles[i] = some p → p.owner = none) →
        StationDoes (.writeProfile .station i.1 c) 0x39 .accepted [] s
          (s.withProfiles { s.profiles with
            profiles := put s.profiles.profiles i (some ⟨g, c.recipeIndex, c.priority,
              decide (c.keep = 1), none, ⟨c.flood, c.hp, 0, 0, c.aux⟩,
              ⟨0, 0, 0, 0, Vector.replicate 8 0⟩, false, none⟩)
            extents := put s.profiles.extents i none })) ∧
      (∀ l, c.presets = 1 → c.presetStart ≤ 511 →
        presetList s.profiles.memory c.presetStart = some l →
        (∀ p, s.profiles.profiles[i] = some p → p.owner = none) →
        StationDoes (.writeProfile .station i.1 c) 0x39 .accepted [] s
          (s.withProfiles { s.profiles with
            profiles := put s.profiles.profiles i (some ⟨g, c.recipeIndex, c.priority,
              decide (c.keep = 1), some c.presetStart, ⟨c.flood, c.hp, 0, 0, c.aux⟩,
              ⟨0, 0, 0, 0, Vector.replicate 8 0⟩, false, none⟩)
            extents := put s.profiles.extents i (some ⟨c.presetStart, l.last⟩) }))) ∧
    ∀ (m : List Host.Cell) (a : Nat) (l : PresetList),
      presetList m a = some l ↔ ValidList m 16 a l.blocks l.last

/-- Tier 1, derived (R156; that the row is a whole frame and discards the bytes of another frame in
progress on the port is the model's choice, log 5). ERASE_PROFILE in either part state: refused
BAD_VALUE above profile 63 and IN_USE for a profile with an owner, otherwise the profile is erased. -/
def Obligations.EraseProfile : Prop :=
  ∀ s : State, s.roomAt stationTx →
    (∀ n, 63 < n → StationDoes (.eraseProfile .station n) 0x3A (.refused .badValue) [] s s) ∧
    (∀ (i : Fin 64) p d, s.profiles.profiles[i] = some p → p.owner = some d →
      StationDoes (.eraseProfile .station i.1) 0x3A (.refused .inUse) [] s s) ∧
    (∀ i : Fin 64, (∀ p, s.profiles.profiles[i] = some p → p.owner = none) →
      StationDoes (.eraseProfile .station i.1) 0x3A .accepted [] s
        (s.withProfiles { s.profiles with
          profiles := put s.profiles.profiles i none
          extents := put s.profiles.extents i none }))

/-! ### Equipment, exceptions, faults (chapters 2, 3, 4, 5, 6, 7) -/

/-- Tier 2, derived (R28, R45, R92, R101, R102; that FILTER_ONLINE and FORCE_FLUSH of a unit above 5
are refused NOT_READY in CONFIG is the model's choice, log 9). FILTER_OFFLINE, FILTER_ONLINE and
FORCE_FLUSH by the unit's state; FILTER_OFFLINE of a FLUSH_READY unit withdraws its sludge
request. -/
def Obligations.FilterRequests : Prop :=
  ∀ s : State, s.roomAt stationTx →
    (∀ n, 6 ≤ n → StationDoes (.filterOffline .station n) 0x40 (.refused .badValue) [] s s) ∧
    (∀ n, 6 ≤ n → s.part = .operating →
      StationDoes (.filterOnline .station n) 0x41 (.refused .badValue) [] s s ∧
      StationDoes (.forceFlush .station n) 0x42 (.refused .badValue) [] s s) ∧
    (∀ n, s.part = .config →
      StationDoes (.filterOnline .station n) 0x41 (.refused .notReady) [] s s ∧
      StationDoes (.forceFlush .station n) 0x42 (.refused .notReady) [] s s) ∧
    (∀ u : Fin 6,
      (s.filter.units[u].state = .offline →
        StationDoes (.filterOffline .station u.1) 0x40 .accepted [] s s) ∧
      (s.filter.units[u].state = .flushing →
        StationDoes (.filterOffline .station u.1) 0x40 (.refused .busy) [] s s) ∧
      (s.filter.units[u].state ≠ .offline → s.filter.units[u].state ≠ .flushing → ∃ t,
        StationAnswers (.filterOffline .station u.1) 0x40 .accepted [] s t ∧
        t.filter.units[u] = { s.filter.units[u] with
          state := .offline, forced := false, postCheck := false } ∧
        (s.filter.slot = some u → t.filter.slot ≠ some u) ∧ t.cells = s.cells ∧ Noticed s t ∧
        (s.filter.units[u].state ≠ .flushReady → s.bankQuiet → s.filter.slot ≠ some u →
          t.intake = s.intake) ∧
        (s.filter.units[u].state = .flushReady →
          (∀ w : Fin 6, w ≠ u → s.filter.units[w].state ≠ .flushWait ∧
            s.filter.units[w].state ≠ .flushReady) →
          t.intake.held = none ∧
          ∀ id l, s.openLot .flush = some (id, l) →
            (l.state ≠ .loading → t.intake.lots[id] = none ∧
              ∀ d, d < s.trunk.config.carry → s.trunk.flight d = .reserved id →
                t.trunk.flight d ≠ .reserved id) ∧
            (l.state = .loading → t.intake.lots[id] = some l)))) ∧
    (∀ u : Fin 6, s.part = .operating →
      (s.filter.units[u].state = .offline ∨ s.filter.units[u].state = .fault → ∃ t,
        StationAnswers (.filterOnline .station u.1) 0x41 .accepted [] s t ∧
        t.filter.units[u] = { s.filter.units[u] with
          state := .online, forced := false, postCheck := false } ∧ t.cells = s.cells ∧
        Noticed s t) ∧
      (s.filter.units[u].state = .online →
        StationDoes (.filterOnline .station u.1) 0x41 .accepted [] s s ∧
        ∃ t, StationAnswers (.forceFlush .station u.1) 0x42 .accepted [] s t ∧
          (t.filter.units[u].state = .flushWait ∨ t.filter.units[u].state = .flushReady ∨
            t.filter.units[u].state = .flushing) ∧
          (t.filter.units[u].state ≠ .flushing → t.filter.units[u].forced = true) ∧
          t.filter.units[u].postCheck = false ∧ t.cells = s.cells ∧ Noticed s t) ∧
      (s.filter.units[u].state = .flushWait ∨ s.filter.units[u].state = .flushReady ∨
          s.filter.units[u].state = .flushing →
        StationDoes (.filterOnline .station u.1) 0x41 (.refused .sequence) [] s s) ∧
      (s.filter.units[u].state ≠ .online →
        StationDoes (.forceFlush .station u.1) 0x42 (.refused .sequence) [] s s))

/-- Tier 2, derived (R65, R69, R71; that a BIN_RESTORE with a fill above 16777215 is BAD_VALUE before
SEQUENCE and that the bin condition is examined again in CONFIG too is the model's choice, logs 9 and
15). BIN_RELEASE and BIN_RESTORE by the bin's state; after the change of state BIN is present while
the bin condition holds. -/
def Obligations.BinRequests : Prop :=
  ∀ s : State, s.roomAt stationTx →
    (∀ n, 5 ≤ n → StationDoes (.binRelease .station n) 0x48 (.refused .badValue) [] s s ∧
      ∀ f, StationDoes (.binRestore .station n f) 0x49 (.refused .badValue) [] s s) ∧
    (∀ b : Fin 5,
      (s.bins[b].state = .inService ∨ s.bins[b].state = .full →
        StationSettles (.binRelease .station b.1) 0x48 .accepted s (s.withBins (put s.bins b
          { s.bins[b] with state := if s.bins[b].committed = 0 then .released else .closing }))
          fun t => s.trunkOk = true → s.outletsOk → t.BinShown) ∧
      (s.bins[b].state ≠ .inService → s.bins[b].state ≠ .full →
        StationDoes (.binRelease .station b.1) 0x48 (.refused .sequence) [] s s)) ∧
    (∀ (b : Fin 5) f, 16777215 < f →
      StationDoes (.binRestore .station b.1 f) 0x49 (.refused .badValue) [] s s) ∧
    (∀ (b : Fin 5) f, f ≤ 16777215 →
      (s.bins[b].state ≠ .presentWait →
        StationDoes (.binRestore .station b.1 f) 0x49 (.refused .sequence) [] s s) ∧
      (s.bins[b].state = .presentWait → ∀ most,
        most = (if b.1 < 4 then s.delivery.capacity[b] - s.bins[b].committed
          else s.delivery.capacity[b]) →
        StationSettles (.binRestore .station b.1 f) 0x49 (if most < f then .adjusted else .accepted) s
          (s.withBins (put s.bins b { s.bins[b] with
            fill := min f most
            unexpected := false
            state := if min f most = s.delivery.capacity[b] then .full else .inService }))
          fun t => s.trunkOk = true → s.outletsOk → t.BinShown))

/-- Tier 2, derived (R22, R23, R36, R37, R40, R46, R60, R67, R175; that CLEAR_GATE of an outlet above 8 is
refused NOT_READY in CONFIG is the model's choice, log 9). CRUSHER_CLEARED removes every lot in the
crusher, however many: each is REMOVED and its record freed, its LOADED flights become UNTRACKED, its
RESERVED ones EMPTY, its commitment is released, the loading of a LOADING one is ended, its gate closed
and its cell's job counts it; every other lot is kept and no bin's fill changes. CLEAR_GATE. -/
def Obligations.CrusherAndGateRequests : Prop :=
  ∀ s : State, s.roomAt stationTx →
    (s.part = .config →
      StationDoes (.crusherCleared .station) 0x50 (.refused .notReady) [] s s ∧
      ∀ n, StationDoes (.clearGate .station n) 0x51 (.refused .notReady) [] s s) ∧
    (s.part = .operating → s.crusher.state ≠ .blocked →
      StationDoes (.crusherCleared .station) 0x50 (.refused .sequence) [] s s) ∧
    (s.part = .operating → s.crusher.state = .blocked → ∃ t,
      StationAnswers (.crusherCleared .station) 0x50 .accepted [] s t ∧
      t.crusher = { s.crusher with
        state := .running, residents := [], untracked := false, drain := .stopped, jamCount := 0 } ∧
      t.trunk.halt.blocked = false ∧ t.trunk.halt.station = s.trunk.halt.station ∧
      t.trunk.head = s.trunk.head ∧
      (∀ r ∈ s.crusher.residents, ∀ l', t.intake.lots[r.lot] = some l' → l'.source = .flush) ∧
      (∀ b : Fin 5, t.bins[b].fill = s.bins[b].fill) ∧ Noticed s t ∧
      ∀ gone : Fin 32 → Bool, s.residentsOk →
        (∀ id, gone id = true ↔ ∃ r ∈ s.crusher.residents, r.lot = id) → LotsRemoved s t gone) ∧
    (s.part = .operating → ∀ n, 9 ≤ n →
      StationDoes (.clearGate .station n) 0x51 (.refused .badValue) [] s s) ∧
    (s.part = .operating → ∀ o : Fin 9,
      (s.outlets[o].gate ≠ .fault ∨ s.inputs.gateClosed[o] = false →
        StationDoes (.clearGate .station o.1) 0x51 (.refused .sequence) [] s s) ∧
      (s.outlets[o].gate = .fault → s.inputs.gateClosed[o] = true → ∃ t,
        StationAnswers (.clearGate .station o.1) 0x51 .accepted [] s t ∧
        (t.outlets[o].gate = .closed ∨ t.outlets[o].gate = .isOpen) ∧
        (t.outlets[o].gate = .closed → t.outlets[o].spill = false) ∧ t.cells = s.cells ∧
        Noticed s t))

/-- Tier 2, derived (R82, R144). CLEAR_SUPPLY_FAULT and CLEAR_PAIR in either part state. -/
def Obligations.ClearFaultsAndPairs : Prop :=
  ∀ s : State, s.roomAt stationTx →
    StationDoes (.clearSupplyFault .station 0) 0x60 .accepted [] s
      (s.withGrants { s.grants with hpFault := false, hpCount := 0 }) ∧
    StationDoes (.clearSupplyFault .station 1) 0x60 .accepted [] s
      (s.withGrants { s.grants with floodFault := false, floodCount := 0 }) ∧
    StationDoes (.clearSupplyFault .station 2) 0x60 .accepted [] s
      (s.withGrants { s.grants with
        hpFault := false, hpCount := 0, floodFault := false, floodCount := 0 }) ∧
    (∀ n, 3 ≤ n → StationDoes (.clearSupplyFault .station n) 0x60 (.refused .badValue) [] s s) ∧
    StationDoes (.clearPair .station 0) 0x63 .accepted [] s
      (s.withSamples { s.samples with clean := { s.samples.clean with
        state := .agree, count := 0, seen := false, maxDiff := 0 } }) ∧
    StationDoes (.clearPair .station 1) 0x63 .accepted [] s
      (s.withSamples { s.samples with dirty := { s.samples.dirty with
        state := .agree, count := 0, seen := false, maxDiff := 0 } }) ∧
    (∀ n, 2 ≤ n → StationDoes (.clearPair .station n) 0x63 (.refused .badValue) [] s s)

/-- Tier 2, derived (R107, R110 to R120). SET_MASKS and CLEAR_EXCEPTIONS, each followed by an
evaluation, whose figures stand afterwards; where that evaluation is the only one, the sticky flags
afterwards are those that stay and those it raises, and the exception-pending markers are those that
stood, all of them where a sticky flag's exception is unmasked, where HOLD begins at SET_MASKS, and
at an unmasked raise. -/
def Obligations.MasksAndExceptions : Prop :=
  ∀ s : State, s.roomAt stationTx →
    (∀ r i o d, 1 < r ∨ 1 < i ∨ 1 < o ∨ 1 < d →
      StationDoes (.setMasks .station r i o d) 0x61 (.refused .badValue) [] s s) ∧
    (∀ r i o d m, r ≤ 1 → i ≤ 1 → o ≤ 1 → d ≤ 1 →
      m = (⟨decide (r = 1), decide (i = 1), decide (o = 1), decide (d = 1)⟩ : Exceptions) →
      StationSettles (.setMasks .station r i o d) 0x61 .accepted s
        (s.withBalance { s.balance with masked := m }) fun t =>
            t.holdOk ∧ (s.balance.sticky.range = true → t.balance.sticky.range = true) ∧
            (s.balance.sticky.invalid = true → t.balance.sticky.invalid = true) ∧
            (s.balance.sticky.overflow = true → t.balance.sticky.overflow = true) ∧
            (s.balance.sticky.depleted = true → t.balance.sticky.depleted = true) ∧
            BalanceFigures t ∧
            ∀ e, RaisedBy t e → s.part = .config ∨ s.bankQuiet →
              t.balance.evalCount = (s.balance.evalCount + 1) % 65536 ∧
              t.balance.sticky = ⟨s.balance.sticky.range || e.range,
                s.balance.sticky.invalid || e.invalid, s.balance.sticky.overflow || e.overflow,
                s.balance.sticky.depleted || e.depleted⟩ ∧
              ∀ c : Fin 8, (t.balance.markers[c] = true ↔ s.balance.markers[c] = true ∨
                Unmasked s.balance.sticky s.balance.masked m ∨
                (s.balance.hold = false ∧ Unmasks s.balance.sticky m) ∨ Unmasks e m)) ∧
    (∀ x, StationSettles (.clearExceptions .station x) 0x62 .accepted s s fun t => t.holdOk ∧
      (x.testBit 0 = false → s.balance.sticky.range = true → t.balance.sticky.range = true) ∧
      (x.testBit 1 = false → s.balance.sticky.invalid = true → t.balance.sticky.invalid = true) ∧
      (x.testBit 2 = false → s.balance.sticky.overflow = true → t.balance.sticky.overflow = true) ∧
      (x.testBit 3 = false → s.balance.sticky.depleted = true → t.balance.sticky.depleted = true) ∧
      BalanceFigures t ∧
      ∀ e, RaisedBy t e → s.part = .config ∨ s.bankQuiet →
        t.balance.evalCount = (s.balance.evalCount + 1) % 65536 ∧
        t.balance.sticky = ⟨(s.balance.sticky.range && !x.testBit 0) || e.range,
          (s.balance.sticky.invalid && !x.testBit 1) || e.invalid,
          (s.balance.sticky.overflow && !x.testBit 2) || e.overflow,
          (s.balance.sticky.depleted && !x.testBit 3) || e.depleted⟩ ∧
        ∀ c : Fin 8, (t.balance.markers[c] = true ↔ s.balance.markers[c] = true ∨
          Unmasks e s.balance.masked)) ∧
    ∃ e, RaisedBy s e

/-! ### Reads and ON_BEHALF (chapter 10) -/

/-- Tier 2, derived (R17, R47, R72, R86, R103, R121, R147, R161, R176, R179, R185, R189, R197; that
the layout within an image, READ_PROFILE's fields and the refusal of its start address above 511 is
the model's choice, logs 19, 24 and 35). What each image holds, encoded as R179 states. Segment 0 of
each read captures the image, answers its first 43 bytes and changes nothing else; reads out of
range are refused. -/
def Obligations.ReadsCapture : Prop :=
  EncodedAsStated ∧ (∀ s : State, s.PlantImages ∧ s.SupplyImages) ∧
  ∀ s : State, s.roomAt stationTx →
    (∀ (i : Instr) (code : Byte) (fields content : List Byte) (v : Verdict),
      ((∃ c : Fin 8, i = .readCell .station c.1 0 ∧ code = 0x70 ∧ fields = u8 c.1 ∧ v = .accepted ∧
          content = s.cellContent c) ∨
        (∃ n, n ≤ 31 ∧ i = .readLots .station n 0 ∧ code = 0x71 ∧ fields = u8 n ∧ v = .accepted ∧
          content = s.lotsContent n) ∨
        (∃ a n, a < s.trunk.config.carry ∧ 1 ≤ n ∧ n ≤ 40 ∧ i = .readMap .station a n 0 ∧
          code = 0x72 ∧ fields = u8 a ++ u8 n ∧
          v = (if s.trunk.config.carry < a + n then .adjusted else .accepted) ∧
          content = s.mapContent a (min n (s.trunk.config.carry - a))) ∨
        (i = .readFilter .station 0 ∧ code = 0x73 ∧ fields = [] ∧ v = .accepted ∧
          content = s.filterContent) ∨
        (i = .readBalance .station 0 ∧ code = 0x74 ∧ fields = [] ∧ v = .accepted ∧
          content = s.balanceContent) ∨
        (i = .readBins .station 0 ∧ code = 0x75 ∧ fields = [] ∧ v = .accepted ∧
          content = s.binsContent) ∨
        (∃ (p : Fin 64) (k : Nat), k ≤ 2 ∧ i = .readProfile .station p.1 k 0 0 ∧ code = 0x76 ∧
          fields = u8 p.1 ++ u8 k ∧ v = .accepted ∧ content = s.profileContent p k 0) ∨
        (∃ (p : Fin 64) (a : Nat), a ≤ 511 ∧ i = .readProfile .station p.1 3 a 0 ∧ code = 0x76 ∧
          fields = u8 p.1 ++ u8 3 ++ u16 a ∧ v = .accepted ∧ content = s.profileContent p 3 a) ∨
        (∃ g : Fin 16, i = .readRecipe .station 0 g.1 0 ∧ code = 0x77 ∧ fields = u8 0 ++ u8 g.1 ∧
          v = .accepted ∧ content = s.recipes.groups[g].bytes) ∨
        (∃ r : Fin 128, i = .readRecipe .station 1 r.1 0 ∧ code = 0x77 ∧ fields = u8 1 ++ u8 r.1 ∧
          v = .accepted ∧ content = s.recipes.recipeContent r)) →
      ∃ t, StationAnswers i code v
          (u8 0 ++ u8 ((content.length + 42) / 43) ++ content.take 43) s t ∧
        t.inner = s.inner ∧ t.links.image = some ⟨code, fields, content⟩ ∧
        (∀ q : Fin 9, t.links.tx[q].overrun = s.links.tx[q].overrun) ∧
        ∀ c, t.owedNotices c = s.owedNotices c) ∧
    (∀ n k, (7 < n → StationDoes (.readCell .station n k) 0x70 (.refused .badValue) [] s s) ∧
      (31 < n → StationDoes (.readLots .station n k) 0x71 (.refused .badValue) [] s s) ∧
      (63 < n → ∀ p a, StationDoes (.readProfile .station n p a k) 0x76 (.refused .badValue) [] s s) ∧
      (∀ p part a, 3 < part ∨ (part = 3 ∧ 511 < a) →
        StationDoes (.readProfile .station p part a k) 0x76 (.refused .badValue) [] s s) ∧
      (∀ kind, 1 < kind → StationDoes (.readRecipe .station kind n k) 0x77 (.refused .badValue) [] s s) ∧
      (15 < n → StationDoes (.readRecipe .station 0 n k) 0x77 (.refused .badValue) [] s s) ∧
      (127 < n → StationDoes (.readRecipe .station 1 n k) 0x77 (.refused .badValue) [] s s)) ∧
    (∀ a n k, (s.trunk.config.carry ≤ a ∨ n = 0 ∨ 40 < n) →
      StationDoes (.readMap .station a n k) 0x72 (.refused .badValue) [] s s)

/-- Tier 2, derived (R185, R189; that a later segment of a cut READ_MAP is answered ACCEPTED, the
fields of READ_PROFILE and the layout of an image are the model's choice, logs 31, 24 and 19). A
later segment of each read, READ_PORTS and its unread clear flag among them, is served from the image
held where code and fields are those of the image and the segment is below its count; with no image,
another code, other fields or a segment at or above the count it is refused SEQUENCE; in either case
nothing else changes, the image included. READ_PORTS at segment 0 captures the ports' record, and
with its clear flag set then clears the flags and dropped counts. -/
def Obligations.ReadsServeSegments : Prop :=
  ∀ s : State, s.roomAt stationTx →
    (∀ (i : Instr) (code : Byte) (fields : List Byte) (k : Nat), 0 < k →
      ((∃ c : Fin 8, i = .readCell .station c.1 k ∧ code = 0x70 ∧ fields = u8 c.1) ∨
        (∃ n, n ≤ 31 ∧ i = .readLots .station n k ∧ code = 0x71 ∧ fields = u8 n) ∨
        (∃ a n, a < s.trunk.config.carry ∧ 1 ≤ n ∧ n ≤ 40 ∧ i = .readMap .station a n k ∧
          code = 0x72 ∧ fields = u8 a ++ u8 n) ∨
        (i = .readFilter .station k ∧ code = 0x73 ∧ fields = []) ∨
        (i = .readBalance .station k ∧ code = 0x74 ∧ fields = []) ∨
        (i = .readBins .station k ∧ code = 0x75 ∧ fields = []) ∨
        (∃ (p : Fin 64) (part a : Nat), part ≤ 2 ∧ i = .readProfile .station p.1 part a k ∧
          code = 0x76 ∧ fields = u8 p.1 ++ u8 part) ∨
        (∃ (p : Fin 64) (a : Nat), a ≤ 511 ∧ i = .readProfile .station p.1 3 a k ∧ code = 0x76 ∧
          fields = u8 p.1 ++ u8 3 ++ u16 a) ∨
        (∃ g : Fin 16, i = .readRecipe .station 0 g.1 k ∧ code = 0x77 ∧ fields = u8 0 ++ u8 g.1) ∨
        (∃ r : Fin 128, i = .readRecipe .station 1 r.1 k ∧ code = 0x77 ∧
          fields = u8 1 ++ u8 r.1) ∨
        (∃ c, i = .readPorts .station c k ∧ code = 0x78 ∧ fields = [])) →
      (∀ content, s.links.image = some ⟨code, fields, content⟩ →
        k < (content.length + 42) / 43 → StationDoes i code .accepted
          (u8 k ++ u8 ((content.length + 42) / 43) ++ (content.drop (k * 43)).take 43) s s) ∧
      ((∀ x, s.links.image = some x → x.code ≠ code ∨ x.fields ≠ fields ∨
          (x.content.length + 42) / 43 ≤ k) →
        StationDoes i code (.refused .sequence) [] s s)) ∧
    (∀ c, 1 < c → StationDoes (.readPorts .station c 0) 0x78 (.refused .badValue) [] s s) ∧
    (∀ c, c ≤ 1 → ∃ t content, exec (.readPorts .station c 0) s = .next t ∧
      content = (s.countFrame .station).portsContent ∧
      Answered stationTx ⟨0x78, .accepted,
        u8 0 ++ u8 ((content.length + 42) / 43) ++ content.take 43⟩ s t ∧
      t.inner = s.inner ∧ t.links.image = some ⟨0x78, [], content⟩ ∧
      (∀ q, t.owedNotices q = s.owedNotices q) ∧
      (c = 0 → Counted .station s t ∧
        ∀ q : Fin 9, t.links.tx[q].overrun = s.links.tx[q].overrun) ∧
      (c = 1 → t.links.rx = (change s.links.rx (rxIndex .station) fun r => { r with
          state := .hunt, gap := .stopped, wellFormed := (r.wellFormed + 1) % 65536 }).map fun r =>
            { r with framingSeen := false, dropped := 0 }) ∧
      (c = 1 → ∀ q : Fin 9, t.links.tx[q].overrun = false))

/-- Tier 2, derived (R184, R186). ON_BEHALF: BAD_VALUE for no cell or no inner code, UNKNOWN_REQUEST and
AUTHORITY for the inner code, and otherwise the cell's request taken for it and answered with the
cell's number, the inner code and its status block, whose layout is stated, the cell's link left
alone; here QUERY, and PAUSE and SET_FLOOD of a PAUSED cell. -/
def Obligations.OnBehalf : Prop :=
  EncodedAsStated ∧ (∀ s : State, s.StatusBlocks) ∧
  ∀ s : State, s.roomAt stationTx →
    (∀ n inner, 8 ≤ n →
      StationDoes (.onBehalf .station n inner) 0x7F (.refused .badValue) [] s s) ∧
    (∀ c : Fin 8, StationDoes (.onBehalf .station c.1 []) 0x7F (.refused .badValue) [] s s) ∧
    (∀ (c : Fin 8) (code : Byte) (v : Verdict) (fields : List Byte) (u : State),
      ((isKnownCode code = false ∧ v = .refused .unknownRequest ∧ u = s) ∨
        (code ∈ stationCodes ∧ v = .refused .authority ∧ u = s) ∨
        (code = 0x09 ∧ fields = [] ∧ v = .accepted ∧ u = s) ∨
        (code = 0x09 ∧ fields ≠ [] ∧ v = .refused .badValue ∧ u = s) ∨
        (code = 0x03 ∧ fields = [] ∧ s.part = .operating ∧ s.cells[c].state = .paused ∧
          v = .accepted ∧ u = s) ∨
        (code = 0x05 ∧ (∃ w, w < 65536 ∧ fields = u16 w ∧ s.part = .operating ∧
          s.cells[c].state = .paused ∧ v = (if s.cells[c].config.floodMax < w then .adjusted
            else .accepted) ∧ u = s.storeDemand c .flood (min w s.cells[c].config.floodMax)))) →
      StationDoes (.onBehalf .station c.1 (code :: fields)) 0x7F v
        (u8 c.1 ++ [code] ++ u.statusBlock c) s
        ((u.withBalance { u.balance with markers := put u.balance.markers c false }).withCells
          (put u.cells c { u.cells[c] with restored := false })))
end

