-- ==== Sys2Proof/Decode.lean ====
section
/-! DEFINITION. The commands that words spell: no row of spec/opcode_table.json has bits. -/

namespace Sys2Proof

/-- The command a word spells by the table's bits: none, since no row gives bits (log 23). -/
def decodeTableWord (_nbits _w : Nat) : Option Instr := none

end Sys2Proof
end

