-- ==== Sys2Proof/Laws/State.lean ====
section
/-! SUPPORT. One lemma for each field under each update of the state, so that no later proof unfolds a
record update. -/

namespace Sys2Proof.Machine

/-! ### `State.withPart` -/

section
variable (s : State) (x : PartState)
@[simp] theorem State.withPart_part : (s.withPart x).part = x := rfl
@[simp] theorem State.withPart_trunk : (s.withPart x).trunk = s.trunk := rfl
@[simp] theorem State.withPart_intake : (s.withPart x).intake = s.intake := rfl
@[simp] theorem State.withPart_outlets : (s.withPart x).outlets = s.outlets := rfl
@[simp] theorem State.withPart_crusher : (s.withPart x).crusher = s.crusher := rfl
@[simp] theorem State.withPart_routing : (s.withPart x).routing = s.routing := rfl
@[simp] theorem State.withPart_delivery : (s.withPart x).delivery = s.delivery := rfl
@[simp] theorem State.withPart_bins : (s.withPart x).bins = s.bins := rfl
@[simp] theorem State.withPart_samples : (s.withPart x).samples = s.samples := rfl
@[simp] theorem State.withPart_filter : (s.withPart x).filter = s.filter := rfl
@[simp] theorem State.withPart_balance : (s.withPart x).balance = s.balance := rfl
@[simp] theorem State.withPart_grants : (s.withPart x).grants = s.grants := rfl
@[simp] theorem State.withPart_recipes : (s.withPart x).recipes = s.recipes := rfl
@[simp] theorem State.withPart_profiles : (s.withPart x).profiles = s.profiles := rfl
@[simp] theorem State.withPart_cells : (s.withPart x).cells = s.cells := rfl
@[simp] theorem State.withPart_links : (s.withPart x).links = s.links := rfl
@[simp] theorem State.withPart_plant : (s.withPart x).plant = s.plant := rfl
@[simp] theorem State.withPart_inputs : (s.withPart x).inputs = s.inputs := rfl
@[simp] theorem State.withPart_outputs : (s.withPart x).outputs = s.outputs := rfl
@[simp] theorem State.withPart_pending : (s.withPart x).pending = s.pending := rfl
@[simp] theorem State.withPart_freeCount : (s.withPart x).freeCount = s.freeCount := rfl
end

/-! ### `State.withTrunk` -/

section
variable (s : State) (x : Trunk)
@[simp] theorem State.withTrunk_part : (s.withTrunk x).part = s.part := rfl
@[simp] theorem State.withTrunk_trunk : (s.withTrunk x).trunk = x := rfl
@[simp] theorem State.withTrunk_intake : (s.withTrunk x).intake = s.intake := rfl
@[simp] theorem State.withTrunk_outlets : (s.withTrunk x).outlets = s.outlets := rfl
@[simp] theorem State.withTrunk_crusher : (s.withTrunk x).crusher = s.crusher := rfl
@[simp] theorem State.withTrunk_routing : (s.withTrunk x).routing = s.routing := rfl
@[simp] theorem State.withTrunk_delivery : (s.withTrunk x).delivery = s.delivery := rfl
@[simp] theorem State.withTrunk_bins : (s.withTrunk x).bins = s.bins := rfl
@[simp] theorem State.withTrunk_samples : (s.withTrunk x).samples = s.samples := rfl
@[simp] theorem State.withTrunk_filter : (s.withTrunk x).filter = s.filter := rfl
@[simp] theorem State.withTrunk_balance : (s.withTrunk x).balance = s.balance := rfl
@[simp] theorem State.withTrunk_grants : (s.withTrunk x).grants = s.grants := rfl
@[simp] theorem State.withTrunk_recipes : (s.withTrunk x).recipes = s.recipes := rfl
@[simp] theorem State.withTrunk_profiles : (s.withTrunk x).profiles = s.profiles := rfl
@[simp] theorem State.withTrunk_cells : (s.withTrunk x).cells = s.cells := rfl
@[simp] theorem State.withTrunk_links : (s.withTrunk x).links = s.links := rfl
@[simp] theorem State.withTrunk_plant : (s.withTrunk x).plant = s.plant := rfl
@[simp] theorem State.withTrunk_inputs : (s.withTrunk x).inputs = s.inputs := rfl
@[simp] theorem State.withTrunk_outputs : (s.withTrunk x).outputs = s.outputs := rfl
@[simp] theorem State.withTrunk_pending : (s.withTrunk x).pending = s.pending := rfl
@[simp] theorem State.withTrunk_freeCount : (s.withTrunk x).freeCount = s.freeCount := rfl
end

/-! ### `State.withIntake` -/

section
variable (s : State) (x : Intake)
@[simp] theorem State.withIntake_part : (s.withIntake x).part = s.part := rfl
@[simp] theorem State.withIntake_trunk : (s.withIntake x).trunk = s.trunk := rfl
@[simp] theorem State.withIntake_intake : (s.withIntake x).intake = x := rfl
@[simp] theorem State.withIntake_outlets : (s.withIntake x).outlets = s.outlets := rfl
@[simp] theorem State.withIntake_crusher : (s.withIntake x).crusher = s.crusher := rfl
@[simp] theorem State.withIntake_routing : (s.withIntake x).routing = s.routing := rfl
@[simp] theorem State.withIntake_delivery : (s.withIntake x).delivery = s.delivery := rfl
@[simp] theorem State.withIntake_bins : (s.withIntake x).bins = s.bins := rfl
@[simp] theorem State.withIntake_samples : (s.withIntake x).samples = s.samples := rfl
@[simp] theorem State.withIntake_filter : (s.withIntake x).filter = s.filter := rfl
@[simp] theorem State.withIntake_balance : (s.withIntake x).balance = s.balance := rfl
@[simp] theorem State.withIntake_grants : (s.withIntake x).grants = s.grants := rfl
@[simp] theorem State.withIntake_recipes : (s.withIntake x).recipes = s.recipes := rfl
@[simp] theorem State.withIntake_profiles : (s.withIntake x).profiles = s.profiles := rfl
@[simp] theorem State.withIntake_cells : (s.withIntake x).cells = s.cells := rfl
@[simp] theorem State.withIntake_links : (s.withIntake x).links = s.links := rfl
@[simp] theorem State.withIntake_plant : (s.withIntake x).plant = s.plant := rfl
@[simp] theorem State.withIntake_inputs : (s.withIntake x).inputs = s.inputs := rfl
@[simp] theorem State.withIntake_outputs : (s.withIntake x).outputs = s.outputs := rfl
@[simp] theorem State.withIntake_pending : (s.withIntake x).pending = s.pending := rfl
@[simp] theorem State.withIntake_freeCount : (s.withIntake x).freeCount = s.freeCount := rfl
end

/-! ### `State.withOutlets` -/

section
variable (s : State) (x : Vector Outlet 9)
@[simp] theorem State.withOutlets_part : (s.withOutlets x).part = s.part := rfl
@[simp] theorem State.withOutlets_trunk : (s.withOutlets x).trunk = s.trunk := rfl
@[simp] theorem State.withOutlets_intake : (s.withOutlets x).intake = s.intake := rfl
@[simp] theorem State.withOutlets_outlets : (s.withOutlets x).outlets = x := rfl
@[simp] theorem State.withOutlets_crusher : (s.withOutlets x).crusher = s.crusher := rfl
@[simp] theorem State.withOutlets_routing : (s.withOutlets x).routing = s.routing := rfl
@[simp] theorem State.withOutlets_delivery : (s.withOutlets x).delivery = s.delivery := rfl
@[simp] theorem State.withOutlets_bins : (s.withOutlets x).bins = s.bins := rfl
@[simp] theorem State.withOutlets_samples : (s.withOutlets x).samples = s.samples := rfl
@[simp] theorem State.withOutlets_filter : (s.withOutlets x).filter = s.filter := rfl
@[simp] theorem State.withOutlets_balance : (s.withOutlets x).balance = s.balance := rfl
@[simp] theorem State.withOutlets_grants : (s.withOutlets x).grants = s.grants := rfl
@[simp] theorem State.withOutlets_recipes : (s.withOutlets x).recipes = s.recipes := rfl
@[simp] theorem State.withOutlets_profiles : (s.withOutlets x).profiles = s.profiles := rfl
@[simp] theorem State.withOutlets_cells : (s.withOutlets x).cells = s.cells := rfl
@[simp] theorem State.withOutlets_links : (s.withOutlets x).links = s.links := rfl
@[simp] theorem State.withOutlets_plant : (s.withOutlets x).plant = s.plant := rfl
@[simp] theorem State.withOutlets_inputs : (s.withOutlets x).inputs = s.inputs := rfl
@[simp] theorem State.withOutlets_outputs : (s.withOutlets x).outputs = s.outputs := rfl
@[simp] theorem State.withOutlets_pending : (s.withOutlets x).pending = s.pending := rfl
@[simp] theorem State.withOutlets_freeCount : (s.withOutlets x).freeCount = s.freeCount := rfl
end

/-! ### `State.withCrusher` -/

section
variable (s : State) (x : Crusher)
@[simp] theorem State.withCrusher_part : (s.withCrusher x).part = s.part := rfl
@[simp] theorem State.withCrusher_trunk : (s.withCrusher x).trunk = s.trunk := rfl
@[simp] theorem State.withCrusher_intake : (s.withCrusher x).intake = s.intake := rfl
@[simp] theorem State.withCrusher_outlets : (s.withCrusher x).outlets = s.outlets := rfl
@[simp] theorem State.withCrusher_crusher : (s.withCrusher x).crusher = x := rfl
@[simp] theorem State.withCrusher_routing : (s.withCrusher x).routing = s.routing := rfl
@[simp] theorem State.withCrusher_delivery : (s.withCrusher x).delivery = s.delivery := rfl
@[simp] theorem State.withCrusher_bins : (s.withCrusher x).bins = s.bins := rfl
@[simp] theorem State.withCrusher_samples : (s.withCrusher x).samples = s.samples := rfl
@[simp] theorem State.withCrusher_filter : (s.withCrusher x).filter = s.filter := rfl
@[simp] theorem State.withCrusher_balance : (s.withCrusher x).balance = s.balance := rfl
@[simp] theorem State.withCrusher_grants : (s.withCrusher x).grants = s.grants := rfl
@[simp] theorem State.withCrusher_recipes : (s.withCrusher x).recipes = s.recipes := rfl
@[simp] theorem State.withCrusher_profiles : (s.withCrusher x).profiles = s.profiles := rfl
@[simp] theorem State.withCrusher_cells : (s.withCrusher x).cells = s.cells := rfl
@[simp] theorem State.withCrusher_links : (s.withCrusher x).links = s.links := rfl
@[simp] theorem State.withCrusher_plant : (s.withCrusher x).plant = s.plant := rfl
@[simp] theorem State.withCrusher_inputs : (s.withCrusher x).inputs = s.inputs := rfl
@[simp] theorem State.withCrusher_outputs : (s.withCrusher x).outputs = s.outputs := rfl
@[simp] theorem State.withCrusher_pending : (s.withCrusher x).pending = s.pending := rfl
@[simp] theorem State.withCrusher_freeCount : (s.withCrusher x).freeCount = s.freeCount := rfl
end

/-! ### `State.withRouting` -/

section
variable (s : State) (x : Routing)
@[simp] theorem State.withRouting_part : (s.withRouting x).part = s.part := rfl
@[simp] theorem State.withRouting_trunk : (s.withRouting x).trunk = s.trunk := rfl
@[simp] theorem State.withRouting_intake : (s.withRouting x).intake = s.intake := rfl
@[simp] theorem State.withRouting_outlets : (s.withRouting x).outlets = s.outlets := rfl
@[simp] theorem State.withRouting_crusher : (s.withRouting x).crusher = s.crusher := rfl
@[simp] theorem State.withRouting_routing : (s.withRouting x).routing = x := rfl
@[simp] theorem State.withRouting_delivery : (s.withRouting x).delivery = s.delivery := rfl
@[simp] theorem State.withRouting_bins : (s.withRouting x).bins = s.bins := rfl
@[simp] theorem State.withRouting_samples : (s.withRouting x).samples = s.samples := rfl
@[simp] theorem State.withRouting_filter : (s.withRouting x).filter = s.filter := rfl
@[simp] theorem State.withRouting_balance : (s.withRouting x).balance = s.balance := rfl
@[simp] theorem State.withRouting_grants : (s.withRouting x).grants = s.grants := rfl
@[simp] theorem State.withRouting_recipes : (s.withRouting x).recipes = s.recipes := rfl
@[simp] theorem State.withRouting_profiles : (s.withRouting x).profiles = s.profiles := rfl
@[simp] theorem State.withRouting_cells : (s.withRouting x).cells = s.cells := rfl
@[simp] theorem State.withRouting_links : (s.withRouting x).links = s.links := rfl
@[simp] theorem State.withRouting_plant : (s.withRouting x).plant = s.plant := rfl
@[simp] theorem State.withRouting_inputs : (s.withRouting x).inputs = s.inputs := rfl
@[simp] theorem State.withRouting_outputs : (s.withRouting x).outputs = s.outputs := rfl
@[simp] theorem State.withRouting_pending : (s.withRouting x).pending = s.pending := rfl
@[simp] theorem State.withRouting_freeCount : (s.withRouting x).freeCount = s.freeCount := rfl
end

/-! ### `State.withDelivery` -/

section
variable (s : State) (x : DeliveryConfig)
@[simp] theorem State.withDelivery_part : (s.withDelivery x).part = s.part := rfl
@[simp] theorem State.withDelivery_trunk : (s.withDelivery x).trunk = s.trunk := rfl
@[simp] theorem State.withDelivery_intake : (s.withDelivery x).intake = s.intake := rfl
@[simp] theorem State.withDelivery_outlets : (s.withDelivery x).outlets = s.outlets := rfl
@[simp] theorem State.withDelivery_crusher : (s.withDelivery x).crusher = s.crusher := rfl
@[simp] theorem State.withDelivery_routing : (s.withDelivery x).routing = s.routing := rfl
@[simp] theorem State.withDelivery_delivery : (s.withDelivery x).delivery = x := rfl
@[simp] theorem State.withDelivery_bins : (s.withDelivery x).bins = s.bins := rfl
@[simp] theorem State.withDelivery_samples : (s.withDelivery x).samples = s.samples := rfl
@[simp] theorem State.withDelivery_filter : (s.withDelivery x).filter = s.filter := rfl
@[simp] theorem State.withDelivery_balance : (s.withDelivery x).balance = s.balance := rfl
@[simp] theorem State.withDelivery_grants : (s.withDelivery x).grants = s.grants := rfl
@[simp] theorem State.withDelivery_recipes : (s.withDelivery x).recipes = s.recipes := rfl
@[simp] theorem State.withDelivery_profiles : (s.withDelivery x).profiles = s.profiles := rfl
@[simp] theorem State.withDelivery_cells : (s.withDelivery x).cells = s.cells := rfl
@[simp] theorem State.withDelivery_links : (s.withDelivery x).links = s.links := rfl
@[simp] theorem State.withDelivery_plant : (s.withDelivery x).plant = s.plant := rfl
@[simp] theorem State.withDelivery_inputs : (s.withDelivery x).inputs = s.inputs := rfl
@[simp] theorem State.withDelivery_outputs : (s.withDelivery x).outputs = s.outputs := rfl
@[simp] theorem State.withDelivery_pending : (s.withDelivery x).pending = s.pending := rfl
@[simp] theorem State.withDelivery_freeCount : (s.withDelivery x).freeCount = s.freeCount := rfl
end

/-! ### `State.withBins` -/

section
variable (s : State) (x : Vector Bin 5)
@[simp] theorem State.withBins_part : (s.withBins x).part = s.part := rfl
@[simp] theorem State.withBins_trunk : (s.withBins x).trunk = s.trunk := rfl
@[simp] theorem State.withBins_intake : (s.withBins x).intake = s.intake := rfl
@[simp] theorem State.withBins_outlets : (s.withBins x).outlets = s.outlets := rfl
@[simp] theorem State.withBins_crusher : (s.withBins x).crusher = s.crusher := rfl
@[simp] theorem State.withBins_routing : (s.withBins x).routing = s.routing := rfl
@[simp] theorem State.withBins_delivery : (s.withBins x).delivery = s.delivery := rfl
@[simp] theorem State.withBins_bins : (s.withBins x).bins = x := rfl
@[simp] theorem State.withBins_samples : (s.withBins x).samples = s.samples := rfl
@[simp] theorem State.withBins_filter : (s.withBins x).filter = s.filter := rfl
@[simp] theorem State.withBins_balance : (s.withBins x).balance = s.balance := rfl
@[simp] theorem State.withBins_grants : (s.withBins x).grants = s.grants := rfl
@[simp] theorem State.withBins_recipes : (s.withBins x).recipes = s.recipes := rfl
@[simp] theorem State.withBins_profiles : (s.withBins x).profiles = s.profiles := rfl
@[simp] theorem State.withBins_cells : (s.withBins x).cells = s.cells := rfl
@[simp] theorem State.withBins_links : (s.withBins x).links = s.links := rfl
@[simp] theorem State.withBins_plant : (s.withBins x).plant = s.plant := rfl
@[simp] theorem State.withBins_inputs : (s.withBins x).inputs = s.inputs := rfl
@[simp] theorem State.withBins_outputs : (s.withBins x).outputs = s.outputs := rfl
@[simp] theorem State.withBins_pending : (s.withBins x).pending = s.pending := rfl
@[simp] theorem State.withBins_freeCount : (s.withBins x).freeCount = s.freeCount := rfl
end

/-! ### `State.withSamples` -/

section
variable (s : State) (x : Samples)
@[simp] theorem State.withSamples_part : (s.withSamples x).part = s.part := rfl
@[simp] theorem State.withSamples_trunk : (s.withSamples x).trunk = s.trunk := rfl
@[simp] theorem State.withSamples_intake : (s.withSamples x).intake = s.intake := rfl
@[simp] theorem State.withSamples_outlets : (s.withSamples x).outlets = s.outlets := rfl
@[simp] theorem State.withSamples_crusher : (s.withSamples x).crusher = s.crusher := rfl
@[simp] theorem State.withSamples_routing : (s.withSamples x).routing = s.routing := rfl
@[simp] theorem State.withSamples_delivery : (s.withSamples x).delivery = s.delivery := rfl
@[simp] theorem State.withSamples_bins : (s.withSamples x).bins = s.bins := rfl
@[simp] theorem State.withSamples_samples : (s.withSamples x).samples = x := rfl
@[simp] theorem State.withSamples_filter : (s.withSamples x).filter = s.filter := rfl
@[simp] theorem State.withSamples_balance : (s.withSamples x).balance = s.balance := rfl
@[simp] theorem State.withSamples_grants : (s.withSamples x).grants = s.grants := rfl
@[simp] theorem State.withSamples_recipes : (s.withSamples x).recipes = s.recipes := rfl
@[simp] theorem State.withSamples_profiles : (s.withSamples x).profiles = s.profiles := rfl
@[simp] theorem State.withSamples_cells : (s.withSamples x).cells = s.cells := rfl
@[simp] theorem State.withSamples_links : (s.withSamples x).links = s.links := rfl
@[simp] theorem State.withSamples_plant : (s.withSamples x).plant = s.plant := rfl
@[simp] theorem State.withSamples_inputs : (s.withSamples x).inputs = s.inputs := rfl
@[simp] theorem State.withSamples_outputs : (s.withSamples x).outputs = s.outputs := rfl
@[simp] theorem State.withSamples_pending : (s.withSamples x).pending = s.pending := rfl
@[simp] theorem State.withSamples_freeCount : (s.withSamples x).freeCount = s.freeCount := rfl
end

/-! ### `State.withFilter` -/

section
variable (s : State) (x : FilterBank)
@[simp] theorem State.withFilter_part : (s.withFilter x).part = s.part := rfl
@[simp] theorem State.withFilter_trunk : (s.withFilter x).trunk = s.trunk := rfl
@[simp] theorem State.withFilter_intake : (s.withFilter x).intake = s.intake := rfl
@[simp] theorem State.withFilter_outlets : (s.withFilter x).outlets = s.outlets := rfl
@[simp] theorem State.withFilter_crusher : (s.withFilter x).crusher = s.crusher := rfl
@[simp] theorem State.withFilter_routing : (s.withFilter x).routing = s.routing := rfl
@[simp] theorem State.withFilter_delivery : (s.withFilter x).delivery = s.delivery := rfl
@[simp] theorem State.withFilter_bins : (s.withFilter x).bins = s.bins := rfl
@[simp] theorem State.withFilter_samples : (s.withFilter x).samples = s.samples := rfl
@[simp] theorem State.withFilter_filter : (s.withFilter x).filter = x := rfl
@[simp] theorem State.withFilter_balance : (s.withFilter x).balance = s.balance := rfl
@[simp] theorem State.withFilter_grants : (s.withFilter x).grants = s.grants := rfl
@[simp] theorem State.withFilter_recipes : (s.withFilter x).recipes = s.recipes := rfl
@[simp] theorem State.withFilter_profiles : (s.withFilter x).profiles = s.profiles := rfl
@[simp] theorem State.withFilter_cells : (s.withFilter x).cells = s.cells := rfl
@[simp] theorem State.withFilter_links : (s.withFilter x).links = s.links := rfl
@[simp] theorem State.withFilter_plant : (s.withFilter x).plant = s.plant := rfl
@[simp] theorem State.withFilter_inputs : (s.withFilter x).inputs = s.inputs := rfl
@[simp] theorem State.withFilter_outputs : (s.withFilter x).outputs = s.outputs := rfl
@[simp] theorem State.withFilter_pending : (s.withFilter x).pending = s.pending := rfl
@[simp] theorem State.withFilter_freeCount : (s.withFilter x).freeCount = s.freeCount := rfl
end

/-! ### `State.withBalance` -/

section
variable (s : State) (x : Balance)
@[simp] theorem State.withBalance_part : (s.withBalance x).part = s.part := rfl
@[simp] theorem State.withBalance_trunk : (s.withBalance x).trunk = s.trunk := rfl
@[simp] theorem State.withBalance_intake : (s.withBalance x).intake = s.intake := rfl
@[simp] theorem State.withBalance_outlets : (s.withBalance x).outlets = s.outlets := rfl
@[simp] theorem State.withBalance_crusher : (s.withBalance x).crusher = s.crusher := rfl
@[simp] theorem State.withBalance_routing : (s.withBalance x).routing = s.routing := rfl
@[simp] theorem State.withBalance_delivery : (s.withBalance x).delivery = s.delivery := rfl
@[simp] theorem State.withBalance_bins : (s.withBalance x).bins = s.bins := rfl
@[simp] theorem State.withBalance_samples : (s.withBalance x).samples = s.samples := rfl
@[simp] theorem State.withBalance_filter : (s.withBalance x).filter = s.filter := rfl
@[simp] theorem State.withBalance_balance : (s.withBalance x).balance = x := rfl
@[simp] theorem State.withBalance_grants : (s.withBalance x).grants = s.grants := rfl
@[simp] theorem State.withBalance_recipes : (s.withBalance x).recipes = s.recipes := rfl
@[simp] theorem State.withBalance_profiles : (s.withBalance x).profiles = s.profiles := rfl
@[simp] theorem State.withBalance_cells : (s.withBalance x).cells = s.cells := rfl
@[simp] theorem State.withBalance_links : (s.withBalance x).links = s.links := rfl
@[simp] theorem State.withBalance_plant : (s.withBalance x).plant = s.plant := rfl
@[simp] theorem State.withBalance_inputs : (s.withBalance x).inputs = s.inputs := rfl
@[simp] theorem State.withBalance_outputs : (s.withBalance x).outputs = s.outputs := rfl
@[simp] theorem State.withBalance_pending : (s.withBalance x).pending = s.pending := rfl
@[simp] theorem State.withBalance_freeCount : (s.withBalance x).freeCount = s.freeCount := rfl
end

/-! ### `State.withGrants` -/

section
variable (s : State) (x : Grants)
@[simp] theorem State.withGrants_part : (s.withGrants x).part = s.part := rfl
@[simp] theorem State.withGrants_trunk : (s.withGrants x).trunk = s.trunk := rfl
@[simp] theorem State.withGrants_intake : (s.withGrants x).intake = s.intake := rfl
@[simp] theorem State.withGrants_outlets : (s.withGrants x).outlets = s.outlets := rfl
@[simp] theorem State.withGrants_crusher : (s.withGrants x).crusher = s.crusher := rfl
@[simp] theorem State.withGrants_routing : (s.withGrants x).routing = s.routing := rfl
@[simp] theorem State.withGrants_delivery : (s.withGrants x).delivery = s.delivery := rfl
@[simp] theorem State.withGrants_bins : (s.withGrants x).bins = s.bins := rfl
@[simp] theorem State.withGrants_samples : (s.withGrants x).samples = s.samples := rfl
@[simp] theorem State.withGrants_filter : (s.withGrants x).filter = s.filter := rfl
@[simp] theorem State.withGrants_balance : (s.withGrants x).balance = s.balance := rfl
@[simp] theorem State.withGrants_grants : (s.withGrants x).grants = x := rfl
@[simp] theorem State.withGrants_recipes : (s.withGrants x).recipes = s.recipes := rfl
@[simp] theorem State.withGrants_profiles : (s.withGrants x).profiles = s.profiles := rfl
@[simp] theorem State.withGrants_cells : (s.withGrants x).cells = s.cells := rfl
@[simp] theorem State.withGrants_links : (s.withGrants x).links = s.links := rfl
@[simp] theorem State.withGrants_plant : (s.withGrants x).plant = s.plant := rfl
@[simp] theorem State.withGrants_inputs : (s.withGrants x).inputs = s.inputs := rfl
@[simp] theorem State.withGrants_outputs : (s.withGrants x).outputs = s.outputs := rfl
@[simp] theorem State.withGrants_pending : (s.withGrants x).pending = s.pending := rfl
@[simp] theorem State.withGrants_freeCount : (s.withGrants x).freeCount = s.freeCount := rfl
end

/-! ### `State.withRecipes` -/

section
variable (s : State) (x : RecipeStore)
@[simp] theorem State.withRecipes_part : (s.withRecipes x).part = s.part := rfl
@[simp] theorem State.withRecipes_trunk : (s.withRecipes x).trunk = s.trunk := rfl
@[simp] theorem State.withRecipes_intake : (s.withRecipes x).intake = s.intake := rfl
@[simp] theorem State.withRecipes_outlets : (s.withRecipes x).outlets = s.outlets := rfl
@[simp] theorem State.withRecipes_crusher : (s.withRecipes x).crusher = s.crusher := rfl
@[simp] theorem State.withRecipes_routing : (s.withRecipes x).routing = s.routing := rfl
@[simp] theorem State.withRecipes_delivery : (s.withRecipes x).delivery = s.delivery := rfl
@[simp] theorem State.withRecipes_bins : (s.withRecipes x).bins = s.bins := rfl
@[simp] theorem State.withRecipes_samples : (s.withRecipes x).samples = s.samples := rfl
@[simp] theorem State.withRecipes_filter : (s.withRecipes x).filter = s.filter := rfl
@[simp] theorem State.withRecipes_balance : (s.withRecipes x).balance = s.balance := rfl
@[simp] theorem State.withRecipes_grants : (s.withRecipes x).grants = s.grants := rfl
@[simp] theorem State.withRecipes_recipes : (s.withRecipes x).recipes = x := rfl
@[simp] theorem State.withRecipes_profiles : (s.withRecipes x).profiles = s.profiles := rfl
@[simp] theorem State.withRecipes_cells : (s.withRecipes x).cells = s.cells := rfl
@[simp] theorem State.withRecipes_links : (s.withRecipes x).links = s.links := rfl
@[simp] theorem State.withRecipes_plant : (s.withRecipes x).plant = s.plant := rfl
@[simp] theorem State.withRecipes_inputs : (s.withRecipes x).inputs = s.inputs := rfl
@[simp] theorem State.withRecipes_outputs : (s.withRecipes x).outputs = s.outputs := rfl
@[simp] theorem State.withRecipes_pending : (s.withRecipes x).pending = s.pending := rfl
@[simp] theorem State.withRecipes_freeCount : (s.withRecipes x).freeCount = s.freeCount := rfl
end

/-! ### `State.withProfiles` -/

section
variable (s : State) (x : ProfileStore)
@[simp] theorem State.withProfiles_part : (s.withProfiles x).part = s.part := rfl
@[simp] theorem State.withProfiles_trunk : (s.withProfiles x).trunk = s.trunk := rfl
@[simp] theorem State.withProfiles_intake : (s.withProfiles x).intake = s.intake := rfl
@[simp] theorem State.withProfiles_outlets : (s.withProfiles x).outlets = s.outlets := rfl
@[simp] theorem State.withProfiles_crusher : (s.withProfiles x).crusher = s.crusher := rfl
@[simp] theorem State.withProfiles_routing : (s.withProfiles x).routing = s.routing := rfl
@[simp] theorem State.withProfiles_delivery : (s.withProfiles x).delivery = s.delivery := rfl
@[simp] theorem State.withProfiles_bins : (s.withProfiles x).bins = s.bins := rfl
@[simp] theorem State.withProfiles_samples : (s.withProfiles x).samples = s.samples := rfl
@[simp] theorem State.withProfiles_filter : (s.withProfiles x).filter = s.filter := rfl
@[simp] theorem State.withProfiles_balance : (s.withProfiles x).balance = s.balance := rfl
@[simp] theorem State.withProfiles_grants : (s.withProfiles x).grants = s.grants := rfl
@[simp] theorem State.withProfiles_recipes : (s.withProfiles x).recipes = s.recipes := rfl
@[simp] theorem State.withProfiles_profiles : (s.withProfiles x).profiles = x := rfl
@[simp] theorem State.withProfiles_cells : (s.withProfiles x).cells = s.cells := rfl
@[simp] theorem State.withProfiles_links : (s.withProfiles x).links = s.links := rfl
@[simp] theorem State.withProfiles_plant : (s.withProfiles x).plant = s.plant := rfl
@[simp] theorem State.withProfiles_inputs : (s.withProfiles x).inputs = s.inputs := rfl
@[simp] theorem State.withProfiles_outputs : (s.withProfiles x).outputs = s.outputs := rfl
@[simp] theorem State.withProfiles_pending : (s.withProfiles x).pending = s.pending := rfl
@[simp] theorem State.withProfiles_freeCount : (s.withProfiles x).freeCount = s.freeCount := rfl
end

/-! ### `State.withCells` -/

section
variable (s : State) (x : Vector CellRecord 8)
@[simp] theorem State.withCells_part : (s.withCells x).part = s.part := rfl
@[simp] theorem State.withCells_trunk : (s.withCells x).trunk = s.trunk := rfl
@[simp] theorem State.withCells_intake : (s.withCells x).intake = s.intake := rfl
@[simp] theorem State.withCells_outlets : (s.withCells x).outlets = s.outlets := rfl
@[simp] theorem State.withCells_crusher : (s.withCells x).crusher = s.crusher := rfl
@[simp] theorem State.withCells_routing : (s.withCells x).routing = s.routing := rfl
@[simp] theorem State.withCells_delivery : (s.withCells x).delivery = s.delivery := rfl
@[simp] theorem State.withCells_bins : (s.withCells x).bins = s.bins := rfl
@[simp] theorem State.withCells_samples : (s.withCells x).samples = s.samples := rfl
@[simp] theorem State.withCells_filter : (s.withCells x).filter = s.filter := rfl
@[simp] theorem State.withCells_balance : (s.withCells x).balance = s.balance := rfl
@[simp] theorem State.withCells_grants : (s.withCells x).grants = s.grants := rfl
@[simp] theorem State.withCells_recipes : (s.withCells x).recipes = s.recipes := rfl
@[simp] theorem State.withCells_profiles : (s.withCells x).profiles = s.profiles := rfl
@[simp] theorem State.withCells_cells : (s.withCells x).cells = x := rfl
@[simp] theorem State.withCells_links : (s.withCells x).links = s.links := rfl
@[simp] theorem State.withCells_plant : (s.withCells x).plant = s.plant := rfl
@[simp] theorem State.withCells_inputs : (s.withCells x).inputs = s.inputs := rfl
@[simp] theorem State.withCells_outputs : (s.withCells x).outputs = s.outputs := rfl
@[simp] theorem State.withCells_pending : (s.withCells x).pending = s.pending := rfl
@[simp] theorem State.withCells_freeCount : (s.withCells x).freeCount = s.freeCount := rfl
end

/-! ### `State.withLinks` -/

section
variable (s : State) (x : Links)
@[simp] theorem State.withLinks_part : (s.withLinks x).part = s.part := rfl
@[simp] theorem State.withLinks_trunk : (s.withLinks x).trunk = s.trunk := rfl
@[simp] theorem State.withLinks_intake : (s.withLinks x).intake = s.intake := rfl
@[simp] theorem State.withLinks_outlets : (s.withLinks x).outlets = s.outlets := rfl
@[simp] theorem State.withLinks_crusher : (s.withLinks x).crusher = s.crusher := rfl
@[simp] theorem State.withLinks_routing : (s.withLinks x).routing = s.routing := rfl
@[simp] theorem State.withLinks_delivery : (s.withLinks x).delivery = s.delivery := rfl
@[simp] theorem State.withLinks_bins : (s.withLinks x).bins = s.bins := rfl
@[simp] theorem State.withLinks_samples : (s.withLinks x).samples = s.samples := rfl
@[simp] theorem State.withLinks_filter : (s.withLinks x).filter = s.filter := rfl
@[simp] theorem State.withLinks_balance : (s.withLinks x).balance = s.balance := rfl
@[simp] theorem State.withLinks_grants : (s.withLinks x).grants = s.grants := rfl
@[simp] theorem State.withLinks_recipes : (s.withLinks x).recipes = s.recipes := rfl
@[simp] theorem State.withLinks_profiles : (s.withLinks x).profiles = s.profiles := rfl
@[simp] theorem State.withLinks_cells : (s.withLinks x).cells = s.cells := rfl
@[simp] theorem State.withLinks_links : (s.withLinks x).links = x := rfl
@[simp] theorem State.withLinks_plant : (s.withLinks x).plant = s.plant := rfl
@[simp] theorem State.withLinks_inputs : (s.withLinks x).inputs = s.inputs := rfl
@[simp] theorem State.withLinks_outputs : (s.withLinks x).outputs = s.outputs := rfl
@[simp] theorem State.withLinks_pending : (s.withLinks x).pending = s.pending := rfl
@[simp] theorem State.withLinks_freeCount : (s.withLinks x).freeCount = s.freeCount := rfl
end

/-! ### `State.withPlant` -/

section
variable (s : State) (x : Plant)
@[simp] theorem State.withPlant_part : (s.withPlant x).part = s.part := rfl
@[simp] theorem State.withPlant_trunk : (s.withPlant x).trunk = s.trunk := rfl
@[simp] theorem State.withPlant_intake : (s.withPlant x).intake = s.intake := rfl
@[simp] theorem State.withPlant_outlets : (s.withPlant x).outlets = s.outlets := rfl
@[simp] theorem State.withPlant_crusher : (s.withPlant x).crusher = s.crusher := rfl
@[simp] theorem State.withPlant_routing : (s.withPlant x).routing = s.routing := rfl
@[simp] theorem State.withPlant_delivery : (s.withPlant x).delivery = s.delivery := rfl
@[simp] theorem State.withPlant_bins : (s.withPlant x).bins = s.bins := rfl
@[simp] theorem State.withPlant_samples : (s.withPlant x).samples = s.samples := rfl
@[simp] theorem State.withPlant_filter : (s.withPlant x).filter = s.filter := rfl
@[simp] theorem State.withPlant_balance : (s.withPlant x).balance = s.balance := rfl
@[simp] theorem State.withPlant_grants : (s.withPlant x).grants = s.grants := rfl
@[simp] theorem State.withPlant_recipes : (s.withPlant x).recipes = s.recipes := rfl
@[simp] theorem State.withPlant_profiles : (s.withPlant x).profiles = s.profiles := rfl
@[simp] theorem State.withPlant_cells : (s.withPlant x).cells = s.cells := rfl
@[simp] theorem State.withPlant_links : (s.withPlant x).links = s.links := rfl
@[simp] theorem State.withPlant_plant : (s.withPlant x).plant = x := rfl
@[simp] theorem State.withPlant_inputs : (s.withPlant x).inputs = s.inputs := rfl
@[simp] theorem State.withPlant_outputs : (s.withPlant x).outputs = s.outputs := rfl
@[simp] theorem State.withPlant_pending : (s.withPlant x).pending = s.pending := rfl
@[simp] theorem State.withPlant_freeCount : (s.withPlant x).freeCount = s.freeCount := rfl
end

/-! ### `State.withInputs` -/

section
variable (s : State) (x : Inputs)
@[simp] theorem State.withInputs_part : (s.withInputs x).part = s.part := rfl
@[simp] theorem State.withInputs_trunk : (s.withInputs x).trunk = s.trunk := rfl
@[simp] theorem State.withInputs_intake : (s.withInputs x).intake = s.intake := rfl
@[simp] theorem State.withInputs_outlets : (s.withInputs x).outlets = s.outlets := rfl
@[simp] theorem State.withInputs_crusher : (s.withInputs x).crusher = s.crusher := rfl
@[simp] theorem State.withInputs_routing : (s.withInputs x).routing = s.routing := rfl
@[simp] theorem State.withInputs_delivery : (s.withInputs x).delivery = s.delivery := rfl
@[simp] theorem State.withInputs_bins : (s.withInputs x).bins = s.bins := rfl
@[simp] theorem State.withInputs_samples : (s.withInputs x).samples = s.samples := rfl
@[simp] theorem State.withInputs_filter : (s.withInputs x).filter = s.filter := rfl
@[simp] theorem State.withInputs_balance : (s.withInputs x).balance = s.balance := rfl
@[simp] theorem State.withInputs_grants : (s.withInputs x).grants = s.grants := rfl
@[simp] theorem State.withInputs_recipes : (s.withInputs x).recipes = s.recipes := rfl
@[simp] theorem State.withInputs_profiles : (s.withInputs x).profiles = s.profiles := rfl
@[simp] theorem State.withInputs_cells : (s.withInputs x).cells = s.cells := rfl
@[simp] theorem State.withInputs_links : (s.withInputs x).links = s.links := rfl
@[simp] theorem State.withInputs_plant : (s.withInputs x).plant = s.plant := rfl
@[simp] theorem State.withInputs_inputs : (s.withInputs x).inputs = x := rfl
@[simp] theorem State.withInputs_outputs : (s.withInputs x).outputs = s.outputs := rfl
@[simp] theorem State.withInputs_pending : (s.withInputs x).pending = s.pending := rfl
@[simp] theorem State.withInputs_freeCount : (s.withInputs x).freeCount = s.freeCount := rfl
end

/-! ### `State.withOutputs` -/

section
variable (s : State) (x : Outputs)
@[simp] theorem State.withOutputs_part : (s.withOutputs x).part = s.part := rfl
@[simp] theorem State.withOutputs_trunk : (s.withOutputs x).trunk = s.trunk := rfl
@[simp] theorem State.withOutputs_intake : (s.withOutputs x).intake = s.intake := rfl
@[simp] theorem State.withOutputs_outlets : (s.withOutputs x).outlets = s.outlets := rfl
@[simp] theorem State.withOutputs_crusher : (s.withOutputs x).crusher = s.crusher := rfl
@[simp] theorem State.withOutputs_routing : (s.withOutputs x).routing = s.routing := rfl
@[simp] theorem State.withOutputs_delivery : (s.withOutputs x).delivery = s.delivery := rfl
@[simp] theorem State.withOutputs_bins : (s.withOutputs x).bins = s.bins := rfl
@[simp] theorem State.withOutputs_samples : (s.withOutputs x).samples = s.samples := rfl
@[simp] theorem State.withOutputs_filter : (s.withOutputs x).filter = s.filter := rfl
@[simp] theorem State.withOutputs_balance : (s.withOutputs x).balance = s.balance := rfl
@[simp] theorem State.withOutputs_grants : (s.withOutputs x).grants = s.grants := rfl
@[simp] theorem State.withOutputs_recipes : (s.withOutputs x).recipes = s.recipes := rfl
@[simp] theorem State.withOutputs_profiles : (s.withOutputs x).profiles = s.profiles := rfl
@[simp] theorem State.withOutputs_cells : (s.withOutputs x).cells = s.cells := rfl
@[simp] theorem State.withOutputs_links : (s.withOutputs x).links = s.links := rfl
@[simp] theorem State.withOutputs_plant : (s.withOutputs x).plant = s.plant := rfl
@[simp] theorem State.withOutputs_inputs : (s.withOutputs x).inputs = s.inputs := rfl
@[simp] theorem State.withOutputs_outputs : (s.withOutputs x).outputs = x := rfl
@[simp] theorem State.withOutputs_pending : (s.withOutputs x).pending = s.pending := rfl
@[simp] theorem State.withOutputs_freeCount : (s.withOutputs x).freeCount = s.freeCount := rfl
end

/-! ### `State.withPending` -/

section
variable (s : State) (x : List Instr)
@[simp] theorem State.withPending_part : (s.withPending x).part = s.part := rfl
@[simp] theorem State.withPending_trunk : (s.withPending x).trunk = s.trunk := rfl
@[simp] theorem State.withPending_intake : (s.withPending x).intake = s.intake := rfl
@[simp] theorem State.withPending_outlets : (s.withPending x).outlets = s.outlets := rfl
@[simp] theorem State.withPending_crusher : (s.withPending x).crusher = s.crusher := rfl
@[simp] theorem State.withPending_routing : (s.withPending x).routing = s.routing := rfl
@[simp] theorem State.withPending_delivery : (s.withPending x).delivery = s.delivery := rfl
@[simp] theorem State.withPending_bins : (s.withPending x).bins = s.bins := rfl
@[simp] theorem State.withPending_samples : (s.withPending x).samples = s.samples := rfl
@[simp] theorem State.withPending_filter : (s.withPending x).filter = s.filter := rfl
@[simp] theorem State.withPending_balance : (s.withPending x).balance = s.balance := rfl
@[simp] theorem State.withPending_grants : (s.withPending x).grants = s.grants := rfl
@[simp] theorem State.withPending_recipes : (s.withPending x).recipes = s.recipes := rfl
@[simp] theorem State.withPending_profiles : (s.withPending x).profiles = s.profiles := rfl
@[simp] theorem State.withPending_cells : (s.withPending x).cells = s.cells := rfl
@[simp] theorem State.withPending_links : (s.withPending x).links = s.links := rfl
@[simp] theorem State.withPending_plant : (s.withPending x).plant = s.plant := rfl
@[simp] theorem State.withPending_inputs : (s.withPending x).inputs = s.inputs := rfl
@[simp] theorem State.withPending_outputs : (s.withPending x).outputs = s.outputs := rfl
@[simp] theorem State.withPending_pending : (s.withPending x).pending = x := rfl
@[simp] theorem State.withPending_freeCount : (s.withPending x).freeCount = s.freeCount := rfl
end

/-! ### `State.withFreeCount` -/

section
variable (s : State) (x : Nat)
@[simp] theorem State.withFreeCount_part : (s.withFreeCount x).part = s.part := rfl
@[simp] theorem State.withFreeCount_trunk : (s.withFreeCount x).trunk = s.trunk := rfl
@[simp] theorem State.withFreeCount_intake : (s.withFreeCount x).intake = s.intake := rfl
@[simp] theorem State.withFreeCount_outlets : (s.withFreeCount x).outlets = s.outlets := rfl
@[simp] theorem State.withFreeCount_crusher : (s.withFreeCount x).crusher = s.crusher := rfl
@[simp] theorem State.withFreeCount_routing : (s.withFreeCount x).routing = s.routing := rfl
@[simp] theorem State.withFreeCount_delivery : (s.withFreeCount x).delivery = s.delivery := rfl
@[simp] theorem State.withFreeCount_bins : (s.withFreeCount x).bins = s.bins := rfl
@[simp] theorem State.withFreeCount_samples : (s.withFreeCount x).samples = s.samples := rfl
@[simp] theorem State.withFreeCount_filter : (s.withFreeCount x).filter = s.filter := rfl
@[simp] theorem State.withFreeCount_balance : (s.withFreeCount x).balance = s.balance := rfl
@[simp] theorem State.withFreeCount_grants : (s.withFreeCount x).grants = s.grants := rfl
@[simp] theorem State.withFreeCount_recipes : (s.withFreeCount x).recipes = s.recipes := rfl
@[simp] theorem State.withFreeCount_profiles : (s.withFreeCount x).profiles = s.profiles := rfl
@[simp] theorem State.withFreeCount_cells : (s.withFreeCount x).cells = s.cells := rfl
@[simp] theorem State.withFreeCount_links : (s.withFreeCount x).links = s.links := rfl
@[simp] theorem State.withFreeCount_plant : (s.withFreeCount x).plant = s.plant := rfl
@[simp] theorem State.withFreeCount_inputs : (s.withFreeCount x).inputs = s.inputs := rfl
@[simp] theorem State.withFreeCount_outputs : (s.withFreeCount x).outputs = s.outputs := rfl
@[simp] theorem State.withFreeCount_pending : (s.withFreeCount x).pending = s.pending := rfl
@[simp] theorem State.withFreeCount_freeCount : (s.withFreeCount x).freeCount = x := rfl
end

end Sys2Proof.Machine
end

