-- ==== Sys2Proof/Laws/Finish.lean ====
section
/-! SUPPORT. Tables and folds, and what the end of an event (`State.finish`), a reply and a counted
frame leave as it was. -/

namespace Sys2Proof.Machine

/-! ### Tables and folds -/

@[simp] theorem put_getElem {α : Type} {n : Nat} (v : Vector α n) (i : Fin n) (x : α) (j : Nat)
    (h : j < n) : (put v i x)[j] = if j = i.1 then x else v[j] := by
  by_cases e : j = i.1
  · subst e; simp [put]
  · rw [if_neg e]
    exact Vector.getElem_set_ne _ _ fun c => e c.symm

@[simp] theorem change_getElem {α : Type} {n : Nat} (v : Vector α n) (i : Fin n) (f : α → α) (j : Nat)
    (h : j < n) : (change v i f)[j] = if j = i.1 then f v[i] else v[j] := put_getElem ..

theorem put_get {α : Type} {n : Nat} (v : Vector α n) (i j : Fin n) (x : α) :
    (put v i x)[j] = if j = i then x else v[j] := by
  simp [Fin.ext_iff]

theorem change_get {α : Type} {n : Nat} (v : Vector α n) (i j : Fin n) (f : α → α) :
    (change v i f)[j] = if j = i then f v[i] else v[j] := put_get v i j _

/-- A view that every round of a fold keeps is kept by the fold. -/
theorem foldl_keeps {σ α β : Type} (view : σ → β) (f : σ → α → σ) (l : List α) (s : σ)
    (h : ∀ s a, view (f s a) = view s) : view (l.foldl f s) = view s := by
  induction l generalizing s with
  | nil => rfl
  | cons a l ih => rw [List.foldl_cons, ih, h]

/-- A property that every round of a fold keeps is kept by the fold. -/
theorem foldl_holds {σ α : Type} (P : σ → Prop) (f : σ → α → σ) (l : List α) (s : σ)
    (h : ∀ s a, P s → P (f s a)) (hs : P s) : P (l.foldl f s) := by
  induction l generalizing s with
  | nil => exact hs
  | cons a l ih => exact ih _ (h _ _ hs)

/-! ### `inner` -/

section
variable (s : State)
@[simp] theorem inner_part : s.inner.part = s.part := rfl
@[simp] theorem inner_trunk : s.inner.trunk = s.trunk := rfl
@[simp] theorem inner_intake : s.inner.intake = s.intake := rfl
@[simp] theorem inner_outlets : s.inner.outlets = s.outlets := rfl
@[simp] theorem inner_crusher : s.inner.crusher = s.crusher := rfl
@[simp] theorem inner_routing : s.inner.routing = s.routing := rfl
@[simp] theorem inner_delivery : s.inner.delivery = s.delivery := rfl
@[simp] theorem inner_bins : s.inner.bins = s.bins := rfl
@[simp] theorem inner_samples : s.inner.samples = s.samples := rfl
@[simp] theorem inner_filter : s.inner.filter = s.filter := rfl
@[simp] theorem inner_balance : s.inner.balance = s.balance := rfl
@[simp] theorem inner_grants : s.inner.grants = s.grants := rfl
@[simp] theorem inner_recipes : s.inner.recipes = s.recipes := rfl
@[simp] theorem inner_profiles : s.inner.profiles = s.profiles := rfl
@[simp] theorem inner_cells : s.inner.cells = s.cells := rfl
@[simp] theorem inner_enables : s.inner.plant.enables = s.plant.enables := rfl
@[simp] theorem inner_inputs : s.inner.inputs = s.inputs := rfl
@[simp] theorem inner_pending : s.inner.pending = s.pending := rfl
@[simp] theorem inner_freeCount : s.inner.freeCount = s.freeCount := rfl
@[simp] theorem inner_withLinks (x : Links) : (s.withLinks x).inner = s.inner := rfl
@[simp] theorem inner_withOutputs (x : Outputs) : (s.withOutputs x).inner = s.inner := rfl
@[simp] theorem inner_withFlags (x : Vector Bool 15) :
    (s.withPlant { s.plant with flags := x }).inner = s.inner := rfl
end

/-! ### Transmitters -/

theorem startNotice_inner (s : State) (c : Fin 8) (p : Fin 9) : (s.startNotice c p).inner = s.inner := by
  unfold State.startNotice
  split
  · rfl
  · split <;> rfl

theorem startTx_inner (s : State) (p : Fin 9) : (s.startTx p).inner = s.inner := by
  unfold State.startTx
  split
  · rfl
  · split
    · rfl
    · split
      · exact startNotice_inner ..
      · rfl

theorem startNotice_rx (s : State) (c : Fin 8) (p : Fin 9) :
    (s.startNotice c p).links.rx = s.links.rx := by
  unfold State.startNotice
  split
  · rfl
  · split <;> rfl

theorem startTx_rx (s : State) (p : Fin 9) : (s.startTx p).links.rx = s.links.rx := by
  unfold State.startTx
  split
  · rfl
  · split
    · rfl
    · split
      · exact startNotice_rx ..
      · rfl

theorem startNotice_image (s : State) (c : Fin 8) (p : Fin 9) :
    (s.startNotice c p).links.image = s.links.image := by
  unfold State.startNotice
  split
  · rfl
  · split <;> rfl

theorem startTx_image (s : State) (p : Fin 9) : (s.startTx p).links.image = s.links.image := by
  unfold State.startTx
  split
  · rfl
  · split
    · rfl
    · split
      · exact startNotice_image ..
      · rfl

theorem startNotice_plant (s : State) (c : Fin 8) (p : Fin 9) :
    (s.startNotice c p).plant = s.plant := by
  unfold State.startNotice
  split
  · rfl
  · split <;> rfl

theorem startTx_plant (s : State) (p : Fin 9) : (s.startTx p).plant = s.plant := by
  unfold State.startTx
  split
  · rfl
  · split
    · rfl
    · split
      · exact startNotice_plant ..
      · rfl

theorem startTx_owedReplies (s : State) (p q : Fin 9) :
    (s.startTx p).owedReplies q = s.owedReplies q := by
  unfold State.startTx
  split
  · rfl
  · rename_i h0
    split
    · rename_i r rest h1
      simp only [State.owedReplies, State.withLinks_links, change_get]
      by_cases h : q = p
      · subst h; simp [-Fin.getElem_fin, h0, h1]
      · simp [-Fin.getElem_fin, h]
    · rename_i h1
      split
      · unfold State.startNotice
        split
        · rfl
        · split
          · simp only [State.owedReplies, State.withLinks_links, change_get]
            by_cases h : q = p
            · subst h; simp [-Fin.getElem_fin, h0, h1]
            · simp [-Fin.getElem_fin, h]
          · rfl
      · rfl

theorem cellTx_inj {c d : Fin 8} (h : cellTx c = cellTx d) : c = d := by
  have := congrArg Fin.val h
  simp [cellTx] at this
  exact Fin.ext this

theorem startTx_owedNotices (s : State) (p : Fin 9) (c : Fin 8) :
    (s.startTx p).owedNotices c = s.owedNotices c := by
  unfold State.startTx
  split
  · rfl
  · rename_i h0
    split
    · rename_i r rest h1
      simp only [State.owedNotices, State.sentNotice, State.withLinks_links, change_get]
      by_cases h : cellTx c = p
      · subst h; simp [-Fin.getElem_fin, h0]
      · simp [-Fin.getElem_fin, h]
    · rename_i h1
      split
      · rename_i hp
        unfold State.startNotice
        split
        · rfl
        · rename_i n rest h2
          split
          · simp only [State.owedNotices, State.sentNotice, State.withLinks_links, change_get, put_get]
            by_cases h : cellTx c = p
            · have hc : c = ⟨p.1, hp⟩ := by
                apply Fin.ext
                have := congrArg Fin.val h
                simpa [cellTx] using this
              subst hc
              simp [-Fin.getElem_fin, h, h0, h2]
            · have hc : c ≠ ⟨p.1, hp⟩ := by
                intro e
                apply h
                subst e
                rfl
              simp [-Fin.getElem_fin, h, hc]
          · rfl
      · rfl

theorem startAllTx_inner (s : State) : s.startAllTx.inner = s.inner := by
  unfold State.startAllTx
  exact foldl_keeps State.inner _ _ _ startTx_inner

theorem startAllTx_rx (s : State) : s.startAllTx.links.rx = s.links.rx := by
  unfold State.startAllTx
  exact foldl_keeps (fun s : State => s.links.rx) _ _ _ startTx_rx

theorem startAllTx_image (s : State) : s.startAllTx.links.image = s.links.image := by
  unfold State.startAllTx
  exact foldl_keeps (fun s : State => s.links.image) _ _ _ startTx_image

theorem startAllTx_plant (s : State) : s.startAllTx.plant = s.plant := by
  unfold State.startAllTx
  exact foldl_keeps State.plant _ _ _ startTx_plant

theorem startAllTx_owedReplies (s : State) (q : Fin 9) :
    s.startAllTx.owedReplies q = s.owedReplies q := by
  unfold State.startAllTx
  exact foldl_keeps (fun s : State => s.owedReplies q) _ _ _ fun s p => startTx_owedReplies s p q

theorem startAllTx_owedNotices (s : State) (c : Fin 8) :
    s.startAllTx.owedNotices c = s.owedNotices c := by
  unfold State.startAllTx
  exact foldl_keeps (fun s : State => s.owedNotices c) _ _ _ fun s p => startTx_owedNotices s p c

/-! ### The end of an event -/

@[simp] theorem refreshFlags_inner (s : State) : s.refreshFlags.inner = s.inner := rfl
@[simp] theorem refreshFlags_links (s : State) : s.refreshFlags.links = s.links := rfl

@[simp] theorem finish_inner (s : State) : s.finish.inner = s.inner := by
  simp [State.finish, State.drive, startAllTx_inner]

@[simp] theorem finish_rx (s : State) : s.finish.links.rx = s.links.rx := by
  simp [State.finish, State.drive, startAllTx_rx]

@[simp] theorem finish_image (s : State) : s.finish.links.image = s.links.image := by
  simp [State.finish, State.drive, startAllTx_image]

@[simp] theorem finish_flags (s : State) : s.finish.plant.flags = alertSources.map s.flagNow := by
  simp [State.finish, State.drive, startAllTx_plant, State.refreshFlags]

theorem drive_owedReplies (s : State) (q : Fin 9) : s.drive.owedReplies q = s.owedReplies q := rfl
theorem drive_owedNotices (s : State) (c : Fin 8) : s.drive.owedNotices c = s.owedNotices c := rfl
theorem refreshFlags_owedReplies (s : State) (q : Fin 9) :
    s.refreshFlags.owedReplies q = s.owedReplies q := rfl
theorem refreshFlags_owedNotices (s : State) (c : Fin 8) :
    s.refreshFlags.owedNotices c = s.owedNotices c := rfl

@[simp] theorem finish_owedReplies (s : State) (q : Fin 9) :
    s.finish.owedReplies q = s.owedReplies q := by
  rw [State.finish, drive_owedReplies, startAllTx_owedReplies, refreshFlags_owedReplies]

@[simp] theorem finish_owedNotices (s : State) (c : Fin 8) :
    s.finish.owedNotices c = s.owedNotices c := by
  rw [State.finish, drive_owedNotices, startAllTx_owedNotices, refreshFlags_owedNotices]

/-- A field that `inner` keeps is kept by the end of an event. -/
theorem finish_view {β : Type} (view : State → β) (h : ∀ s, view (State.inner s) = view s) (s : State) :
    view s.finish = view s := by
  rw [← h, finish_inner, h]

@[simp] theorem finish_part (s : State) : s.finish.part = s.part :=
  finish_view State.part inner_part s
@[simp] theorem finish_trunk (s : State) : s.finish.trunk = s.trunk :=
  finish_view State.trunk inner_trunk s
@[simp] theorem finish_intake (s : State) : s.finish.intake = s.intake :=
  finish_view State.intake inner_intake s
@[simp] theorem finish_outlets (s : State) : s.finish.outlets = s.outlets :=
  finish_view State.outlets inner_outlets s
@[simp] theorem finish_crusher (s : State) : s.finish.crusher = s.crusher :=
  finish_view State.crusher inner_crusher s
@[simp] theorem finish_routing (s : State) : s.finish.routing = s.routing :=
  finish_view State.routing inner_routing s
@[simp] theorem finish_delivery (s : State) : s.finish.delivery = s.delivery :=
  finish_view State.delivery inner_delivery s
@[simp] theorem finish_bins (s : State) : s.finish.bins = s.bins :=
  finish_view State.bins inner_bins s
@[simp] theorem finish_samples (s : State) : s.finish.samples = s.samples :=
  finish_view State.samples inner_samples s
@[simp] theorem finish_filter (s : State) : s.finish.filter = s.filter :=
  finish_view State.filter inner_filter s
@[simp] theorem finish_balance (s : State) : s.finish.balance = s.balance :=
  finish_view State.balance inner_balance s
@[simp] theorem finish_grants (s : State) : s.finish.grants = s.grants :=
  finish_view State.grants inner_grants s
@[simp] theorem finish_recipes (s : State) : s.finish.recipes = s.recipes :=
  finish_view State.recipes inner_recipes s
@[simp] theorem finish_profiles (s : State) : s.finish.profiles = s.profiles :=
  finish_view State.profiles inner_profiles s
@[simp] theorem finish_cells (s : State) : s.finish.cells = s.cells :=
  finish_view State.cells inner_cells s
@[simp] theorem finish_inputs (s : State) : s.finish.inputs = s.inputs :=
  finish_view State.inputs inner_inputs s
@[simp] theorem finish_pending (s : State) : s.finish.pending = s.pending :=
  finish_view State.pending inner_pending s
@[simp] theorem finish_freeCount (s : State) : s.finish.freeCount = s.freeCount :=
  finish_view State.freeCount inner_freeCount s
@[simp] theorem finish_enables (s : State) : s.finish.plant.enables = s.plant.enables :=
  finish_view (fun s : State => s.plant.enables) inner_enables s

end Sys2Proof.Machine
end

