-- ==== Sys2Proof/Laws/Settle.lean ====
section
/-! SUPPORT. What the end of an event (`Event.settle`) leaves as it was, function by function: each
keeps `State.steady`. -/

namespace Sys2Proof.Machine

/-! ### Updates that `steady` does not see -/

theorem change_map {α β : Type} {n : Nat} (v : Vector α n) (i : Fin n) (f : α → α) (g : α → β)
    (h : ∀ x, g (f x) = g x) : (change v i f).map g = v.map g := by
  ext j hj
  simp only [Vector.getElem_map, change_getElem]
  split
  · rename_i e; subst e; simp [h]
  · rfl

section
variable (s : State)

@[simp] theorem steady_withIntake (x : Intake) : (s.withIntake x).steady = s.steady := rfl
@[simp] theorem steady_withRouting (x : Routing) : (s.withRouting x).steady = s.steady := rfl

theorem steady_setFlight (d : Nat) (f : Flight) :
    (s.withTrunk (s.trunk.setFlight d f)).steady = s.steady := rfl

theorem steady_setHalt_routing (b : Bool) : (s.setHalt .routing b).steady = s.steady := rfl
theorem steady_setHalt_bin (b : Bool) : (s.setHalt .bin b).steady = s.steady := rfl

@[simp] theorem updateLot_steady (id : Fin 32) (f : Lot → Lot) :
    (s.updateLot id f).steady = s.steady := by
  unfold State.updateLot; split <;> rfl

@[simp] theorem post_steady (c : Fin 8) (n : Notice) : (s.post c n).steady = s.steady := rfl

@[simp] theorem postLotRecord_steady (id : Fin 32) (l : Lot) :
    (s.postLotRecord id l).steady = s.steady := by
  unfold State.postLotRecord
  split
  · split <;> simp
  · rfl

@[simp] theorem postLot_steady (id : Fin 32) : (s.postLot id).steady = s.steady := by
  unfold State.postLot; split <;> simp

@[simp] theorem createLot_steady (l : Lot) : (s.createLot l).steady = s.steady := by
  unfold State.createLot; split <;> simp

@[simp] theorem addCommitment_steady (b : Fin 5) (v : Nat) :
    (s.addCommitment b v).steady = s.steady := by
  simp [State.addCommitment, State.updateBin, State.steady, change_map]

@[simp] theorem setValve_steady (c : Fin 8) (k : ValveKind) (x : Valve) :
    (s.setValve c k x).steady = s.steady := rfl
@[simp] theorem commandValve_steady (c : Fin 8) (k : ValveKind) (g : Nat) :
    (s.commandValve c k g).steady = s.steady := rfl
@[simp] theorem setRequest_steady (c : Fin 8) (k : ValveKind) (p : PendingRequest) :
    (s.setRequest c k p).steady = s.steady := rfl
@[simp] theorem postGrant_steady (c : Fin 8) (r : GrantReason) :
    (s.postGrant c r).steady = s.steady := rfl
@[simp] theorem takeStamp_steady : s.takeStamp.steady = s.steady := rfl
@[simp] theorem restStamp_steady : s.restStamp.steady = s.steady := by
  unfold State.restStamp; split <;> rfl
@[simp] theorem clearRequest_steady (c : Fin 8) (k : ValveKind) :
    (s.clearRequest c k).steady = s.steady := by
  simp [State.clearRequest]

/-! ### The routing unit's examination -/

@[simp] theorem examineBin_steady : s.examineBin.steady = s.steady := rfl
@[simp] theorem commandMove_steady (t : Target) : (s.commandMove t).steady = s.steady := rfl
@[simp] theorem startMove_steady : s.startMove.steady = s.steady := by
  unfold State.startMove
  split
  · split <;> simp
  · rfl
@[simp] theorem examine_steady : s.examine.steady = s.steady := by
  unfold State.examine
  split
  · simp [steady_setHalt_routing]
  · rfl

end

/-! ### The intake arbiter's pass -/

@[simp] theorem Event.map_st (e : Event) (f : State → State) : (e.map f).st = f e.st := rfl
@[simp] theorem Event.of_st (s : State) : (Event.of s).st = s := rfl
@[simp] theorem Event.needExam_st (e : Event) : e.needExam.st = e.st := rfl
@[simp] theorem Event.needPass_st (e : Event) : e.needPass.st = e.st := rfl
@[simp] theorem Event.needEval_st (e : Event) : e.needEval.st = e.st := rfl

theorem steady_units (s : State) (u : Fin 6) (f : FilterUnit → FilterUnit) (slot : Option (Fin 6))
    (begun : Vector Bool 32) (last : Option LastCheck)
    (h : ∀ x : FilterUnit, { f x with state := .offline, forced := false, timer := .stopped } =
      { x with state := .offline, forced := false, timer := .stopped }) :
    (s.withFilter ⟨change s.filter.units u f, slot, begun, last, s.filter.sludge⟩).steady =
      s.steady := by
  simp [State.steady, change_map, h]

@[simp] theorem sludgeLoading_steady (e : Event) (id : Fin 32) :
    (e.sludgeLoading id).st.steady = e.st.steady := by
  unfold Event.sludgeLoading
  simp only
  split
  · rfl
  · exact steady_units _ _ _ _ _ _ fun _ => rfl

theorem steady_updateOutlet (s : State) (o : Fin 9) (f : Outlet → Outlet)
    (h : ∀ x, (f x).closeTime = x.closeTime) : (s.updateOutlet o f).steady = s.steady := by
  simp [State.updateOutlet, State.steady, change_map, h]

@[simp] theorem openGate_steady (e : Event) (o : Fin 9) : (e.openGate o).st.steady = e.st.steady := by
  unfold Event.openGate
  simp only
  split
  · rfl
  · split
    · rfl
    · split
      · split <;> simp [steady_updateOutlet]
      · rfl

@[simp] theorem reserve_steady (s : State) (id : Fin 32) (w n : Nat) :
    (s.withTrunk (s.trunk.reserve id w n)).steady = s.steady := by
  have h : ∀ l : List Nat, ∀ t : Trunk,
      (s.withTrunk (l.foldl (fun t k => t.setFlight (w + k) (.reserved id)) t)).steady =
        (s.withTrunk t).steady := by
    intro l
    induction l with
    | nil => intro t; rfl
    | cons a l ih => intro t; rw [List.foldl_cons, ih]; rfl
  exact h _ _

@[simp] theorem reserveLot_steady (e : Event) (id : Fin 32) (l : Lot) (w : Nat) :
    (e.reserveLot id l w).st.steady = e.st.steady := by
  unfold Event.reserveLot
  simp only
  split <;> simp

@[simp] theorem visitLot_steady (e : Event) (x : Fin 32 × Lot) :
    (e.visitLot x).st.steady = e.st.steady := by
  unfold Event.visitLot
  split
  · rfl
  · split <;> simp

@[simp] theorem pendingPass_steady (e : Event) : e.pendingPass.st.steady = e.st.steady :=
  foldl_keeps (fun e : Event => e.st.steady) _ _ _ visitLot_steady

@[simp] theorem passes_steady (e : Event) : e.passes.st.steady = e.st.steady := by
  unfold Event.passes
  simp only
  split <;> split <;> simp

/-! ### Evaluation and its handling -/

theorem steady_withBalance (s : State) (b : Balance) (hm : b.masked = s.balance.masked)
    (hc : b.config = s.balance.config) : (s.withBalance b).steady = s.steady := by
  simp [State.steady, hm, hc]

@[simp] theorem commitmentUpdate_steady (s : State) : s.commitmentUpdate.steady = s.steady :=
  steady_withBalance _ _ rfl rfl

@[simp] theorem examineHold_masked (b : Balance) : b.examineHold.masked = b.masked := rfl
@[simp] theorem examineHold_config (b : Balance) : b.examineHold.config = b.config := rfl

@[simp] theorem evaluateBalance_steady (s : State) : s.evaluateBalance.steady = s.steady := by
  unfold State.evaluateBalance
  apply steady_withBalance
  · simp only [examineHold_masked]
    split <;> simp [Balance.markAll]
  · simp only [examineHold_config]
    split <;> simp [Balance.markAll]

@[simp] theorem enterRestore_steady (s : State) (c : Fin 8) (k : ValveKind) (n : Nat) :
    (s.enterRestore c k n).steady = s.steady := rfl

@[simp] theorem lowlowWithdraw_steady (s : State) (c : Fin 8) :
    (s.lowlowWithdraw c).steady = s.steady := by
  unfold State.lowlowWithdraw
  simp only
  split <;> rfl

@[simp] theorem handleLowlow_steady (s : State) : s.handleLowlow.steady = s.steady := by
  unfold State.handleLowlow
  simp only
  split
  · split <;> rfl
  · split
    · rw [foldl_keeps State.steady _ _ _ lowlowWithdraw_steady]; rfl
    · rfl

@[simp] theorem steady_withShed (s : State) (x : Shed) :
    (s.withGrants { s.grants with shed := x }).steady = s.steady := rfl

@[simp] theorem takeStep_steady (s : State) (v : ShedStep) : (s.takeStep v).steady = s.steady := by
  unfold State.takeStep
  rw [steady_withShed, postGrant_steady, enterRestore_steady, setValve_steady]
@[simp] theorem restShed_steady (s : State) (st : ShedState) : (s.restShed st).steady = s.steady := rfl

@[simp] theorem seekVictim_steady (s : State) : s.seekVictim.steady = s.steady := by
  unfold State.seekVictim; split <;> simp

@[simp] theorem handleShed_steady (s : State) (b : Bool) : (s.handleShed b).steady = s.steady := by
  unfold State.handleShed
  simp only
  split
  · split
    · rw [seekVictim_steady]; rfl
    · rfl
  · split
    · split <;> simp
    · rfl
  · split <;> simp

@[simp] theorem setBound_steady (s : State) (c : Fin 8) (k : ValveKind) (b : Bound) :
    (s.setBound c k b).steady = s.steady := by
  unfold State.setBound; split <;> simp

@[simp] theorem serve_steady (p : Pass) (w : Waiting) : (p.serve w).st.steady = p.st.steady := by
  unfold Pass.serve Pass.serveFlood Pass.serveHp Pass.grant
  simp only
  split
  · split
    · split <;> simp
    · simp
  · split
    · split <;> simp
    · simp

@[simp] theorem postIncreases_steady (s : State) (g : List Waiting) :
    (s.postIncreases g).steady = s.steady :=
  foldl_keeps State.steady _ _ _ fun _ _ => rfl

@[simp] theorem grantPass_steady (s : State) : s.grantPass.steady = s.steady := by
  have h : ∀ (l : List Waiting) (p : Pass), (l.foldl Pass.serve p).st.steady = p.st.steady :=
    fun l p => foldl_keeps (fun p : Pass => p.st.steady) _ _ _ serve_steady
  unfold State.grantPass
  simp only
  split <;> simp [h]

@[simp] theorem boundValve_steady (s : State) (x : Fin 8 × ValveKind) :
    (s.boundValve x).steady = s.steady := by
  unfold State.boundValve; split <;> simp

@[simp] theorem handleResult_steady (s : State) (b : Bool) :
    (s.handleResult b).steady = s.steady := by
  unfold State.handleResult
  simp only
  rw [foldl_keeps State.steady _ _ _ boundValve_steady]
  split <;> simp

@[simp] theorem evaluate_steady (s : State) (b : Bool) : (s.evaluate b).steady = s.steady := by
  unfold State.evaluate; split <;> simp

/-! ### Selection and the end of an event -/

@[simp] theorem takeUpHeld_steady (e : Event) : e.takeUpHeld.st.steady = e.st.steady := by
  unfold Event.takeUpHeld
  split
  · rfl
  · split <;> simp

@[simp] theorem requestSludge_steady (e : Event) : e.requestSludge.st.steady = e.st.steady := by
  simp [Event.requestSludge]

@[simp] theorem selectUnit_steady (e : Event) (u : Fin 6) :
    (e.selectUnit u).st.steady = e.st.steady := by
  unfold Event.selectUnit
  simp only [Event.needEval_st, requestSludge_steady, Event.map_st]
  exact steady_units _ _ _ _ _ _ fun _ => rfl

@[simp] theorem select_steady (e : Event) : e.select.st.steady = e.st.steady := by
  unfold Event.select
  split
  · rfl
  · split
    · rfl
    · simp only
      split
      · rw [selectUnit_steady]; rfl
      · rfl

@[simp] theorem afterSelection_steady (e : Event) : e.afterSelection.steady = e.st.steady := by
  unfold Event.afterSelection
  simp only
  split <;> simp

theorem settleAs_steady (e : Event) (b : Bool) :
    (e.settleAs b).handled.steady = e.st.steady ∧ (e.settleAs b).final.steady = e.st.steady := by
  unfold Event.settleAs
  simp only
  split
  · split <;> simp
  · simp

@[simp] theorem settle_steady (e : Event) : e.settle.steady = e.st.steady := (settleAs_steady e _).2

/-- A field that `steady` keeps is kept by the end of an event. -/
theorem settle_view {β : Type} (view : State → β) (h : ∀ s, view (State.steady s) = view s) (e : Event) :
    view e.settle = view e.st := by
  rw [← h, settle_steady, h]

@[simp] theorem settle_part (e : Event) : e.settle.part = e.st.part :=
  settle_view State.part (fun _ => rfl) e
@[simp] theorem settle_crusher (e : Event) : e.settle.crusher = e.st.crusher :=
  settle_view State.crusher (fun _ => rfl) e
@[simp] theorem settle_delivery (e : Event) : e.settle.delivery = e.st.delivery :=
  settle_view State.delivery (fun _ => rfl) e
@[simp] theorem settle_samples (e : Event) : e.settle.samples = e.st.samples :=
  settle_view State.samples (fun _ => rfl) e
@[simp] theorem settle_recipes (e : Event) : e.settle.recipes = e.st.recipes :=
  settle_view State.recipes (fun _ => rfl) e
@[simp] theorem settle_profiles (e : Event) : e.settle.profiles = e.st.profiles :=
  settle_view State.profiles (fun _ => rfl) e
@[simp] theorem settle_cells (e : Event) : e.settle.cells = e.st.cells :=
  settle_view State.cells (fun _ => rfl) e
@[simp] theorem settle_plant (e : Event) : e.settle.plant = e.st.plant :=
  settle_view State.plant (fun _ => rfl) e
@[simp] theorem settle_inputs (e : Event) : e.settle.inputs = e.st.inputs :=
  settle_view State.inputs (fun _ => rfl) e
@[simp] theorem settle_outputs (e : Event) : e.settle.outputs = e.st.outputs :=
  settle_view State.outputs (fun _ => rfl) e
@[simp] theorem settle_pending (e : Event) : e.settle.pending = e.st.pending :=
  settle_view State.pending (fun _ => rfl) e
@[simp] theorem settle_freeCount (e : Event) : e.settle.freeCount = e.st.freeCount :=
  settle_view State.freeCount (fun _ => rfl) e
@[simp] theorem settle_head (e : Event) : e.settle.trunk.head = e.st.trunk.head :=
  settle_view (fun s : State => s.trunk.head) (fun _ => rfl) e
@[simp] theorem settle_belt (e : Event) : e.settle.trunk.belt = e.st.trunk.belt :=
  settle_view (fun s : State => s.trunk.belt) (fun _ => rfl) e
@[simp] theorem settle_registered (e : Event) : e.settle.trunk.registered = e.st.trunk.registered :=
  settle_view (fun s : State => s.trunk.registered) (fun _ => rfl) e
@[simp] theorem settle_overloadCount (e : Event) : e.settle.trunk.overloadCount = e.st.trunk.overloadCount :=
  settle_view (fun s : State => s.trunk.overloadCount) (fun _ => rfl) e
@[simp] theorem settle_registration (e : Event) : e.settle.trunk.registration = e.st.trunk.registration :=
  settle_view (fun s : State => s.trunk.registration) (fun _ => rfl) e
@[simp] theorem settle_trunkConfig (e : Event) : e.settle.trunk.config = e.st.trunk.config :=
  settle_view (fun s : State => s.trunk.config) (fun _ => rfl) e
@[simp] theorem settle_sludge (e : Event) : e.settle.filter.sludge = e.st.filter.sludge :=
  settle_view (fun s : State => s.filter.sludge) (fun _ => rfl) e
@[simp] theorem settle_masked (e : Event) : e.settle.balance.masked = e.st.balance.masked :=
  settle_view (fun s : State => s.balance.masked) (fun _ => rfl) e
@[simp] theorem settle_tankConfig (e : Event) : e.settle.balance.config = e.st.balance.config :=
  settle_view (fun s : State => s.balance.config) (fun _ => rfl) e
@[simp] theorem settle_hpFault (e : Event) : e.settle.grants.hpFault = e.st.grants.hpFault :=
  settle_view (fun s : State => s.grants.hpFault) (fun _ => rfl) e
@[simp] theorem settle_hpCount (e : Event) : e.settle.grants.hpCount = e.st.grants.hpCount :=
  settle_view (fun s : State => s.grants.hpCount) (fun _ => rfl) e
@[simp] theorem settle_floodFault (e : Event) : e.settle.grants.floodFault = e.st.grants.floodFault :=
  settle_view (fun s : State => s.grants.floodFault) (fun _ => rfl) e
@[simp] theorem settle_floodCount (e : Event) : e.settle.grants.floodCount = e.st.grants.floodCount :=
  settle_view (fun s : State => s.grants.floodCount) (fun _ => rfl) e
@[simp] theorem settle_supply (e : Event) : e.settle.grants.supply = e.st.grants.supply :=
  settle_view (fun s : State => s.grants.supply) (fun _ => rfl) e
@[simp] theorem settle_rx (e : Event) : e.settle.links.rx = e.st.links.rx :=
  settle_view (fun s : State => s.links.rx) (fun _ => rfl) e
@[simp] theorem settle_tx (e : Event) : e.settle.links.tx = e.st.links.tx :=
  settle_view (fun s : State => s.links.tx) (fun _ => rfl) e
@[simp] theorem settle_image (e : Event) : e.settle.links.image = e.st.links.image :=
  settle_view (fun s : State => s.links.image) (fun _ => rfl) e

end Sys2Proof.Machine
end

