-- ==== Sys2Proof/Laws/Ground.lean ====
section
/-! SUPPORT. What nearly every operation leaves as it was, function by function: the part state, the
head index, belt counter, registered flag and configuration of the trunk, the delivery and sensor
configurations, the recipes, preset memory and extents, the receivers, the transmitters, the read
image, the alert enables, the queue of commands and the free counter. -/

namespace Sys2Proof.Machine

/-- The state with everything but those masked. -/
def State.ground (s : State) : State where
  part := s.part
  trunk := { Trunk.powerOn with
    head := s.trunk.head
    belt := s.trunk.belt
    registered := s.trunk.registered
    config := s.trunk.config }
  intake := .powerOn
  outlets := Vector.replicate 9 .powerOn
  crusher := .powerOn
  routing := .powerOn
  delivery := s.delivery
  bins := Vector.replicate 5 (Bin.powerOn false)
  samples := { Samples.powerOn with config := s.samples.config }
  filter := .powerOn
  balance := .powerOn
  grants := .powerOn
  recipes := s.recipes
  profiles := ⟨Vector.replicate 64 none, s.profiles.memory, s.profiles.extents⟩
  cells := Vector.ofFn CellRecord.powerOn
  links := { s.links with notices := Vector.replicate 8 [] }
  plant := ⟨s.plant.enables, Vector.replicate 15 false⟩
  inputs := .low
  outputs := .powerOn
  pending := s.pending
  freeCount := s.freeCount

/-! ### Updates that `ground` does not see -/

section
variable (s : State)
@[simp] theorem ground_withIntake (x : Intake) : (s.withIntake x).ground = s.ground := rfl
@[simp] theorem ground_withOutlets (x : Vector Outlet 9) : (s.withOutlets x).ground = s.ground := rfl
@[simp] theorem ground_withCrusher (x : Crusher) : (s.withCrusher x).ground = s.ground := rfl
@[simp] theorem ground_withRouting (x : Routing) : (s.withRouting x).ground = s.ground := rfl
@[simp] theorem ground_withBins (x : Vector Bin 5) : (s.withBins x).ground = s.ground := rfl
@[simp] theorem ground_withFilter (x : FilterBank) : (s.withFilter x).ground = s.ground := rfl
@[simp] theorem ground_withBalance (x : Balance) : (s.withBalance x).ground = s.ground := rfl
@[simp] theorem ground_withGrants (x : Grants) : (s.withGrants x).ground = s.ground := rfl
@[simp] theorem ground_withCells (x : Vector CellRecord 8) : (s.withCells x).ground = s.ground := rfl
@[simp] theorem ground_withInputs (x : Inputs) : (s.withInputs x).ground = s.ground := rfl
@[simp] theorem ground_withOutputs (x : Outputs) : (s.withOutputs x).ground = s.ground := rfl
@[simp] theorem ground_withFlags (x : Vector Bool 15) :
    (s.withPlant { s.plant with flags := x }).ground = s.ground := rfl
@[simp] theorem ground_withHalt (x : HaltSet) :
    (s.withTrunk { s.trunk with halt := x }).ground = s.ground := rfl
@[simp] theorem ground_withMap (x : Vector Flight 256) :
    (s.withTrunk { s.trunk with map := x }).ground = s.ground := rfl
@[simp] theorem ground_withOverload (x : Nat) :
    (s.withTrunk { s.trunk with overloadCount := x }).ground = s.ground := rfl
@[simp] theorem ground_withRegistration (x : Bool) :
    (s.withTrunk { s.trunk with registration := x }).ground = s.ground := rfl
@[simp] theorem ground_withProfiles (x : Vector (Option Profile) 64) :
    (s.withProfiles { s.profiles with profiles := x }).ground = s.ground := rfl
@[simp] theorem ground_withNotices (x : Vector (List Notice) 8) :
    (s.withLinks { s.links with notices := x }).ground = s.ground := rfl
end

/-- What `steady` keeps, `ground` reads. -/
theorem ground_of_steady {s t : State} (h : s.steady = t.steady) : s.ground = t.ground := by
  have hg : ∀ u : State, u.steady.ground = u.ground := fun _ => rfl
  rw [← hg s, h, hg]

@[simp] theorem settle_ground (e : Event) : e.settle.ground = e.st.ground :=
  ground_of_steady (settle_steady e)

theorem settleAs_ground (e : Event) (b : Bool) : (e.settleAs b).final.ground = e.st.ground :=
  ground_of_steady (settleAs_steady e b).2

/-! ### Shared operations -/

section
variable (s : State)
@[simp] theorem setHalt_ground (r : HaltReason) (b : Bool) : (s.setHalt r b).ground = s.ground := rfl
@[simp] theorem setFlight_ground (d : Nat) (f : Flight) :
    (s.withTrunk (s.trunk.setFlight d f)).ground = s.ground := rfl
@[simp] theorem mapRun_ground (f : Flight → Flight) :
    (s.withTrunk (s.trunk.mapRun f)).ground = s.ground := by
  unfold Trunk.mapRun
  exact ground_withMap s _
@[simp] theorem dropLot_ground (id : Fin 32) :
    (s.withTrunk (s.trunk.dropLot id)).ground = s.ground := mapRun_ground s _
@[simp] theorem updateLot_ground (id : Fin 32) (f : Lot → Lot) :
    (s.updateLot id f).ground = s.ground := ground_of_steady (updateLot_steady ..)
@[simp] theorem post_ground (c : Fin 8) (n : Notice) : (s.post c n).ground = s.ground := rfl
@[simp] theorem postLotRecord_ground (id : Fin 32) (l : Lot) :
    (s.postLotRecord id l).ground = s.ground := ground_of_steady (postLotRecord_steady ..)
@[simp] theorem postLot_ground (id : Fin 32) : (s.postLot id).ground = s.ground :=
  ground_of_steady (postLot_steady ..)
@[simp] theorem createLot_ground (l : Lot) : (s.createLot l).ground = s.ground :=
  ground_of_steady (createLot_steady ..)
@[simp] theorem setValve_ground (c : Fin 8) (k : ValveKind) (x : Valve) :
    (s.setValve c k x).ground = s.ground := rfl
@[simp] theorem commandValve_ground (c : Fin 8) (k : ValveKind) (g : Nat) :
    (s.commandValve c k g).ground = s.ground := rfl
@[simp] theorem setRequest_ground (c : Fin 8) (k : ValveKind) (p : PendingRequest) :
    (s.setRequest c k p).ground = s.ground := rfl
@[simp] theorem postGrant_ground (c : Fin 8) (r : GrantReason) :
    (s.postGrant c r).ground = s.ground := rfl
@[simp] theorem takeStamp_ground : s.takeStamp.ground = s.ground := rfl
@[simp] theorem restStamp_ground : s.restStamp.ground = s.ground :=
  ground_of_steady (restStamp_steady ..)
@[simp] theorem clearRequest_ground (c : Fin 8) (k : ValveKind) :
    (s.clearRequest c k).ground = s.ground := ground_of_steady (clearRequest_steady ..)
@[simp] theorem updateBin_ground (b : Fin 5) (f : Bin → Bin) : (s.updateBin b f).ground = s.ground := rfl
@[simp] theorem addCommitment_ground (b : Fin 5) (v : Nat) :
    (s.addCommitment b v).ground = s.ground := rfl
@[simp] theorem examineBin_ground : s.examineBin.ground = s.ground := rfl
@[simp] theorem commandMove_ground (t : Target) : (s.commandMove t).ground = s.ground := rfl
@[simp] theorem examine_ground : s.examine.ground = s.ground := ground_of_steady (examine_steady ..)
@[simp] theorem updateOutlet_ground (o : Fin 9) (f : Outlet → Outlet) :
    (s.updateOutlet o f).ground = s.ground := rfl
@[simp] theorem closeGate_ground (o : Fin 9) : (s.closeGate o).ground = s.ground := rfl
@[simp] theorem updateCell_ground (c : Fin 8) (f : CellRecord → CellRecord) :
    (s.updateCell c f).ground = s.ground := rfl
@[simp] theorem updateUnit_ground (u : Fin 6) (f : FilterUnit → FilterUnit) :
    (s.updateUnit u f).ground = s.ground := rfl
@[simp] theorem countLot_ground (c : Fin 8) (v : Nat) : (s.countLot c v).ground = s.ground := rfl
@[simp] theorem commitmentUpdate_ground : s.commitmentUpdate.ground = s.ground := rfl
@[simp] theorem refreshFlags_ground : s.refreshFlags.ground = s.ground := rfl

@[simp] theorem updateProfile_ground (i : Fin 64) (f : Profile → Profile) :
    (s.updateProfile i f).ground = s.ground := by
  unfold State.updateProfile
  split
  · rfl
  · exact ground_withProfiles ..

@[simp] theorem freeLot_ground (id : Fin 32) : (s.freeLot id).ground = s.ground := by
  unfold State.freeLot
  simp only
  split <;> rfl

@[simp] theorem freeSlot_ground (u : Fin 6) : (s.freeSlot u).ground = s.ground := by
  unfold State.freeSlot
  split <;> rfl
end

/-! ### Lots and gates -/

section
variable (e : Event)

@[simp] theorem takeUpHeld_ground : e.takeUpHeld.st.ground = e.st.ground :=
  ground_of_steady (takeUpHeld_steady e)
@[simp] theorem sludgeLoading_ground (id : Fin 32) : (e.sludgeLoading id).st.ground = e.st.ground :=
  ground_of_steady (sludgeLoading_steady e id)
@[simp] theorem openGate_ground (o : Fin 9) : (e.openGate o).st.ground = e.st.ground :=
  ground_of_steady (openGate_steady e o)

@[simp] theorem setBinState_ground (b : Fin 5) (st : BinState) :
    (e.setBinState b st).st.ground = e.st.ground := by
  unfold Event.setBinState
  split <;> simp

@[simp] theorem releaseIfClear_ground (b : Fin 5) : (e.releaseIfClear b).st.ground = e.st.ground := by
  unfold Event.releaseIfClear
  split <;> simp

@[simp] theorem fullIfReached_ground (b : Fin 5) : (e.fullIfReached b).st.ground = e.st.ground := by
  unfold Event.fullIfReached
  split <;> simp

@[simp] theorem removeCommitment_ground (b : Fin 5) (v : Nat) :
    (e.removeCommitment b v).st.ground = e.st.ground := by
  simp [Event.removeCommitment]

@[simp] theorem accountDelivery_ground (l : Lot) (p : Target) :
    (e.accountDelivery l p).st.ground = e.st.ground := by
  simp [Event.accountDelivery]

@[simp] theorem sludgeFinal_ground (id : Fin 32) : (e.sludgeFinal id).st.ground = e.st.ground := by
  unfold Event.sludgeFinal
  simp only
  split
  · simp
  · split <;> simp

@[simp] theorem endCommitment_ground (l : Lot) (d : Option Target) :
    (e.endCommitment l d).st.ground = e.st.ground := by
  unfold Event.endCommitment
  split
  · simp
  · split <;> simp

@[simp] theorem endLot_ground (id : Fin 32) (f : LotState) (d : Option Target) :
    (e.endLot id f d).st.ground = e.st.ground := by
  unfold Event.endLot
  split
  · rfl
  · simp only
    split <;> simp

@[simp] theorem cancelLot_ground (id : Fin 32) : (e.cancelLot id).st.ground = e.st.ground := by
  simp [Event.cancelLot]

@[simp] theorem faultGate_ground (o : Fin 9) : (e.faultGate o).st.ground = e.st.ground := by
  unfold Event.faultGate
  simp only
  split
  · simp
  · split <;> simp

@[simp] theorem enterTransit_ground (id : Fin 32) : (e.enterTransit id).st.ground = e.st.ground := by
  unfold Event.enterTransit
  split
  · rfl
  · simp only
    split <;> simp

@[simp] theorem retargetCommitment_ground (l : Lot) :
    (e.retargetCommitment l).st.ground = e.st.ground := by
  unfold Event.retargetCommitment
  split <;> simp

@[simp] theorem markMixed_ground (id : Fin 32) (b : Bool) :
    (e.markMixed id b).1.st.ground = e.st.ground := by
  unfold Event.markMixed
  split
  · rfl
  · split
    · split <;> simp
    · split <;> simp

theorem spreadTo_ground (x : Fin 32) (acc : Event × List (Fin 32)) (y : Fin 32) :
    (spreadTo x acc y).1.st.ground = acc.1.st.ground := by
  unfold spreadTo
  split <;> simp

@[simp] theorem spread_ground (n : Nat) (xs : List (Fin 32)) :
    (Event.spread n e xs).st.ground = e.st.ground := by
  induction n generalizing e xs with
  | zero => cases xs <;> rfl
  | succ n ih =>
    cases xs with
    | nil => rfl
    | cons x xs =>
      simp only [Event.spread]
      rw [ih]
      exact foldl_keeps (fun a : Event × List (Fin 32) => a.1.st.ground) _ _ _
        fun a y => spreadTo_ground x a y

@[simp] theorem passOpen_ground (o : Fin 9) (d : Nat) : (e.passOpen o d).st.ground = e.st.ground := by
  unfold Event.passOpen
  split
  · rfl
  · split
    · simp only
      split <;> simp
    · rfl

@[simp] theorem passSpill_ground (o : Fin 9) (d : Nat) :
    (e.passSpill o d).1.st.ground = e.st.ground := by
  unfold Event.passSpill
  split
  · simp
  · rfl
  all_goals
    split
    · rfl
    · split <;> simp

theorem passing_ground (acc : Event × List (Fin 32)) (o : Fin 9) :
    (Event.passing acc o).1.st.ground = acc.1.st.ground := by
  unfold Event.passing
  simp only
  split
  · split
    · simp
    · split <;> simp
  · rfl

@[simp] theorem passings_ground : e.passings.st.ground = e.st.ground := by
  unfold Event.passings
  simp only [spread_ground]
  exact foldl_keeps (fun a : Event × List (Fin 32) => a.1.st.ground) _ _ _ passing_ground

end

@[simp] theorem loseResident_ground (s : State) (id : Fin 32) :
    (s.loseResident id).ground = s.ground := by
  unfold State.loseResident
  simp only
  split <;> simp

theorem loseResident_trunk (s : State) (id : Fin 32) : (s.loseResident id).trunk = s.trunk := by
  unfold State.loseResident
  simp only
  split <;> rfl

@[simp] theorem loseResident_dropLot_ground (s : State) (id : Fin 32) :
    ((s.loseResident id).withTrunk (s.trunk.dropLot id)).ground = s.ground := by
  have h := dropLot_ground (s.loseResident id) id
  rw [loseResident_trunk] at h
  rw [h, loseResident_ground]

@[simp] theorem loseLot_ground (e : Event) (id : Fin 32) : (e.loseLot id).st.ground = e.st.ground := by
  unfold Event.loseLot
  split
  · rfl
  · simp only
    split <;> simp

/-! ### Crusher -/

section
variable (s : State)

@[simp] theorem restartDrain_ground (n : Nat) : (s.restartDrain n).ground = s.ground := rfl

@[simp] theorem checkRouting_ground (id : Fin 32) (l : Lot) :
    (s.checkRouting id l).ground = s.ground := by
  unfold State.checkRouting
  split
  · rfl
  · split <;> simp

@[simp] theorem deliverLot_ground (id : Fin 32) (l : Lot) : (s.deliverLot id l).ground = s.ground := by
  simp [State.deliverLot]

@[simp] theorem deliverUntracked_ground : s.deliverUntracked.ground = s.ground := rfl

@[simp] theorem deliver_ground (f : Flight) : (s.deliver f).ground = s.ground := by
  unfold State.deliver
  split
  · rfl
  · rfl
  · simp
  · split <;> simp

@[simp] theorem drainExpiry_ground : s.drainExpiry.st.ground = s.ground := by
  unfold State.drainExpiry
  simp only [Event.needExam_st, Event.map_st, ground_withCrusher]
  exact foldl_keeps (fun e : Event => e.st.ground) _ _ (Event.of s)
    fun e r => by simp [Event.deliverResident]

@[simp] theorem chargeJam_ground : s.chargeJam.1.ground = s.ground := by
  unfold State.chargeJam
  split
  · simp [State.chargeLot]
  · simp [State.chargeUntracked]

@[simp] theorem takeJam_ground : s.takeJam.ground = s.ground := by
  unfold State.takeJam
  simp only
  split <;> simp [State.reverse, State.block]

@[simp] theorem detectJam_ground : s.detectJam.ground = s.ground := by
  unfold State.detectJam
  simp only
  split
  · split
    · split <;> simp
    · rfl
  · rfl

@[simp] theorem reverseExpiry_ground : s.reverseExpiry.ground = s.ground := by
  unfold State.reverseExpiry
  split <;> rfl

@[simp] theorem probeExpiry_ground : s.probeExpiry.ground = s.ground := by
  unfold State.probeExpiry
  split <;> rfl

@[simp] theorem endLoading_ground (e : Event) (id : Fin 32) :
    (e.endLoading id).st.ground = e.st.ground := by
  unfold Event.endLoading
  split
  · rfl
  · split <;> simp

@[simp] theorem clearCrusher_ground : s.clearCrusher.st.ground = s.ground := by
  unfold State.clearCrusher
  simp only [Event.needExam_st, Event.map_st, setHalt_ground, ground_withCrusher]
  exact foldl_keeps (fun e : Event => e.st.ground) _ _ (Event.of s)
    fun e r => by simp [Event.removeResident]

/-! ### Sample sets -/

@[simp] theorem detectOverload_ground : s.detectOverload.ground = s.ground := by
  unfold State.detectOverload
  simp only
  split
  · rfl
  · split
    · split <;> rfl
    · rfl

@[simp] theorem filterAtSet_ground : s.filterAtSet.ground = s.ground := rfl

@[simp] theorem dropHp_ground (r : GrantReason) (c : Fin 8) :
    (State.dropHp r s c).ground = s.ground := by
  unfold State.dropHp
  simp only
  split <;> simp

@[simp] theorem examineHeaders_ground : s.examineHeaders.ground = s.ground := by
  unfold State.examineHeaders
  simp only
  split
  · rw [foldl_keeps State.ground _ _ _ fun s c => dropHp_ground s .hpFault c]
    rfl
  · rfl

@[simp] theorem takeSet_ground (set : SampleSet) :
    (s.withSamples (s.samples.take set)).ground = s.ground := rfl

@[simp] theorem sampleArrival_ground (set : SampleSet) : (s.sampleArrival set).ground = s.ground := by
  unfold State.sampleArrival
  simp only [settle_ground, Event.needEval_st, Event.of_st]
  split <;> simp

@[simp] theorem expire_ground : (s.withSamples s.samples.expire).ground = s.ground := by
  have : s.samples.expire.config = s.samples.config := by
    unfold Samples.expire
    split <;> rfl
  simp [State.ground, this]

/-! ### Filter bank, valves, gates, routing, bins -/

@[simp] theorem flushDoneRise_ground (u : Fin 6) : (s.flushDoneRise u).st.ground = s.ground := by
  unfold State.flushDoneRise
  split <;> simp

@[simp] theorem flushDone_ground (u : Fin 6) (b : Bool) : (s.flushDone u b).st.ground = s.ground := by
  unfold State.flushDone
  simp only
  split <;> simp

@[simp] theorem flushExpiry_ground (u : Fin 6) : (s.flushExpiry u).st.ground = s.ground := by
  unfold State.flushExpiry
  split <;> simp

@[simp] theorem withdrawSludge_ground (e : Event) : e.withdrawSludge.st.ground = e.st.ground := by
  unfold Event.withdrawSludge
  simp only
  split
  · rfl
  · split <;> simp

@[simp] theorem takeOffline_ground (u : Fin 6) : (s.takeOffline u).st.ground = s.ground := by
  unfold State.takeOffline
  simp only
  split <;> simp

@[simp] theorem settleExpiry_ground (c : Fin 8) (k : ValveKind) :
    (s.settleExpiry c k).st.ground = s.ground := by
  unfold State.settleExpiry
  simp only
  split <;> simp

@[simp] theorem stepExpiry_ground : s.stepExpiry.ground = s.ground := by
  unfold State.stepExpiry
  split
  · simp only [settleAs_ground, Event.needEval_st, Event.of_st, ground_withGrants]
    unfold State.countStep
    split <;> simp
  · rfl

@[simp] theorem loseLink_ground (e : Event) (c : Fin 8) : (e.loseLink c).st.ground = e.st.ground := by
  unfold Event.loseLink
  simp only
  split
  · split <;> simp
  · simp

@[simp] theorem linkExpiry_ground (c : Fin 8) : (s.linkExpiry c).st.ground = s.ground := by
  unfold State.linkExpiry
  split <;> simp

@[simp] theorem gateClosed_ground (o : Fin 9) (b : Bool) : (s.gateClosed o b).st.ground = s.ground := by
  unfold State.gateClosed
  simp only
  split
  · rfl
  · split
    · rfl
    · unfold Event.gateFall
      split <;> simp

@[simp] theorem gateExpiry_ground (o : Fin 9) : (s.gateExpiry o).st.ground = s.ground := by
  unfold State.gateExpiry
  split <;> simp

@[simp] theorem routingSettled_ground (b : Bool) : (s.routingSettled b).st.ground = s.ground := by
  unfold State.routingSettled
  simp only
  split
  · rfl
  · split <;> simp

@[simp] theorem routingExpiry_ground : s.routingExpiry.st.ground = s.ground := by
  unfold State.routingExpiry
  split <;> simp

@[simp] theorem binPresent_ground (b : Fin 5) (x : Bool) : (s.binPresent b x).st.ground = s.ground := by
  unfold State.binPresent
  simp only
  split
  · rfl
  · split <;> simp

/-! ### Cells and jobs -/

@[simp] theorem withdraw_ground (c : Fin 8) : (s.withdraw c).ground = s.ground := by
  unfold State.withdraw
  simp only
  split <;> simp

@[simp] theorem requestDemands_ground (c : Fin 8) : (s.requestDemands c).ground = s.ground := by
  unfold State.requestDemands
  simp only
  split <;> split <;> split <;> simp

@[simp] theorem startDemands_ground (e : Event) (c : Fin 8) :
    (e.startDemands c).1.ground = e.st.ground := by
  simp [Event.startDemands, settleAs_ground]

@[simp] theorem suspend_ground (c : Fin 8) : (s.suspend c).ground = s.ground := by
  unfold State.suspend
  simp only
  split <;> simp

@[simp] theorem setUp_ground (c : Fin 8) (i : Fin 64) (p : Profile) (r : Recipe) :
    (s.setUp c i p r).ground = s.ground := by
  simp [State.setUp]

@[simp] theorem resume_ground (c : Fin 8) (i : Fin 64) (q : Profile) :
    (s.resume c i q).ground = s.ground := rfl

@[simp] theorem finishJob_ground (c : Fin 8) : (s.finishJob c).st.ground = s.ground := by
  unfold State.finishJob
  simp only [Event.map_st, updateCell_ground]
  split <;> split <;> simp

@[simp] theorem lowerGrant_ground (c : Fin 8) (k : ValveKind) (v : Nat) :
    (s.lowerGrant c k v).ground = s.ground := by
  unfold State.lowerGrant
  simp only [settle_ground]
  split <;> split <;> simp

@[simp] theorem raiseGrant_ground (c : Fin 8) (k : ValveKind) (v : Nat) (b : Bool) :
    (s.raiseGrant c k v b).1.ground = s.ground := by
  simp [State.raiseGrant, settleAs_ground]

/-! A cell request as served. -/

theorem startJob_ground (c : Fin 8) (p : Nat) : (s.startJob c p).1.ground = s.ground := by
  unfold State.startJob
  split
  · rfl
  · rfl
  · split
    · rfl
    · split
      · rfl
      · rfl
      · simp only [startDemands_ground, Event.of_st, setUp_ground]
        split <;> simp

theorem endJob_ground (c : Fin 8) : (s.endJob c).1.ground = s.ground := by
  unfold State.endJob
  split
  · rfl
  · simp only
    split <;> simp [State.goIdle]

theorem pauseJob_ground (c : Fin 8) : (s.pauseJob c).1.ground = s.ground := by
  unfold State.pauseJob
  split
  · rfl
  · split <;> simp

theorem continueJob_ground (c : Fin 8) : (s.continueJob c).1.ground = s.ground := by
  unfold State.continueJob
  split
  · rfl
  · split <;> simp

theorem setCoolant_ground (c : Fin 8) (k : ValveKind) (v : Nat) :
    (s.setCoolant c k v).1.ground = s.ground := by
  unfold State.setCoolant
  split
  · rfl
  · simp only
    split
    · rfl
    · split <;> simp [State.storeDemand]

theorem discharge_ground (c : Fin 8) (n v f : Nat) : (s.discharge c n v f).1.ground = s.ground := by
  unfold State.discharge
  split <;> simp

theorem cutLoading_ground (id : Fin 32) (o : Nat) :
    (s.withTrunk (s.trunk.cutLoading id o)).ground = s.ground := by
  have h : ∀ (l : List Nat) (t : Trunk),
      (s.withTrunk (l.foldl (fun t d => if t.flight d = .reserved id then
        if d = o then t.setFlight d (.loaded id)
        else if o < d then t.setFlight d .empty else t else t) t)).ground = (s.withTrunk t).ground := by
    intro l
    induction l with
    | nil => intro t; rfl
    | cons a l ih =>
      intro t
      rw [List.foldl_cons, ih]
      split
      · split
        · rfl
        · split <;> rfl
      · rfl
  exact h _ _

theorem shorten_ground (e : Event) (id : Fin 32) (l : Lot) (n : Nat) (g : Option Nat) :
    (e.shorten id l n g).st.ground = e.st.ground := by
  unfold Event.shorten
  simp only [enterTransit_ground]
  split <;> simp

theorem dischargeEnd_ground (c : Fin 8) (p v : Nat) : (s.dischargeEnd c p v).1.ground = s.ground := by
  unfold State.dischargeEnd
  split
  · rfl
  · split
    · rfl
    · rfl
    · split
      · simp only [settle_ground, Event.endDischarge, Event.needExam_st, Event.needPass_st]
        split
        · rw [shorten_ground]; simp [cutLoading_ground]
        · simp [cutLoading_ground]
      · simp

end

end Sys2Proof.Machine
end

