-- ==== Sys2Proof/Laws/Requests.lean ====
section
/-! SUPPORT. A request row taken on its own port: the next state, the reply, the receiver, in terms of
how the owning block serves it. -/

namespace Sys2Proof.Machine

/-! ### Updates under `inner` -/

section
variable (s : State)
@[simp] theorem inner_withPart (x : PartState) : (s.withPart x).inner = s.inner.withPart x := rfl
@[simp] theorem inner_withTrunk (x : Trunk) : (s.withTrunk x).inner = s.inner.withTrunk x := rfl
@[simp] theorem inner_withIntake (x : Intake) : (s.withIntake x).inner = s.inner.withIntake x := rfl
@[simp] theorem inner_withOutlets (x : Vector Outlet 9) : (s.withOutlets x).inner = s.inner.withOutlets x := rfl
@[simp] theorem inner_withCrusher (x : Crusher) : (s.withCrusher x).inner = s.inner.withCrusher x := rfl
@[simp] theorem inner_withRouting (x : Routing) : (s.withRouting x).inner = s.inner.withRouting x := rfl
@[simp] theorem inner_withDelivery (x : DeliveryConfig) : (s.withDelivery x).inner = s.inner.withDelivery x := rfl
@[simp] theorem inner_withBins (x : Vector Bin 5) : (s.withBins x).inner = s.inner.withBins x := rfl
@[simp] theorem inner_withSamples (x : Samples) : (s.withSamples x).inner = s.inner.withSamples x := rfl
@[simp] theorem inner_withFilter (x : FilterBank) : (s.withFilter x).inner = s.inner.withFilter x := rfl
@[simp] theorem inner_withBalance (x : Balance) : (s.withBalance x).inner = s.inner.withBalance x := rfl
@[simp] theorem inner_withGrants (x : Grants) : (s.withGrants x).inner = s.inner.withGrants x := rfl
@[simp] theorem inner_withRecipes (x : RecipeStore) : (s.withRecipes x).inner = s.inner.withRecipes x := rfl
@[simp] theorem inner_withProfiles (x : ProfileStore) : (s.withProfiles x).inner = s.inner.withProfiles x := rfl
@[simp] theorem inner_withCells (x : Vector CellRecord 8) : (s.withCells x).inner = s.inner.withCells x := rfl
@[simp] theorem inner_withInputs (x : Inputs) : (s.withInputs x).inner = s.inner.withInputs x := rfl
@[simp] theorem inner_withPending (x : List Instr) : (s.withPending x).inner = s.inner.withPending x := rfl
@[simp] theorem inner_withFreeCount (x : Nat) : (s.withFreeCount x).inner = s.inner.withFreeCount x := rfl
end

/-! ### A counted frame -/

section
variable (s : State) (p : Port)
@[simp] theorem countFrame_part : (s.countFrame p).part = s.part := rfl
@[simp] theorem countFrame_trunk : (s.countFrame p).trunk = s.trunk := rfl
@[simp] theorem countFrame_intake : (s.countFrame p).intake = s.intake := rfl
@[simp] theorem countFrame_outlets : (s.countFrame p).outlets = s.outlets := rfl
@[simp] theorem countFrame_crusher : (s.countFrame p).crusher = s.crusher := rfl
@[simp] theorem countFrame_routing : (s.countFrame p).routing = s.routing := rfl
@[simp] theorem countFrame_delivery : (s.countFrame p).delivery = s.delivery := rfl
@[simp] theorem countFrame_bins : (s.countFrame p).bins = s.bins := rfl
@[simp] theorem countFrame_samples : (s.countFrame p).samples = s.samples := rfl
@[simp] theorem countFrame_filter : (s.countFrame p).filter = s.filter := rfl
@[simp] theorem countFrame_balance : (s.countFrame p).balance = s.balance := rfl
@[simp] theorem countFrame_grants : (s.countFrame p).grants = s.grants := rfl
@[simp] theorem countFrame_recipes : (s.countFrame p).recipes = s.recipes := rfl
@[simp] theorem countFrame_profiles : (s.countFrame p).profiles = s.profiles := rfl
@[simp] theorem countFrame_cells : (s.countFrame p).cells = s.cells := rfl
@[simp] theorem countFrame_inputs : (s.countFrame p).inputs = s.inputs := rfl
@[simp] theorem countFrame_pending : (s.countFrame p).pending = s.pending := rfl
@[simp] theorem countFrame_freeCount : (s.countFrame p).freeCount = s.freeCount := rfl
@[simp] theorem countFrame_plant : (s.countFrame p).plant = s.plant := rfl
@[simp] theorem countFrame_outputs : (s.countFrame p).outputs = s.outputs := rfl
@[simp] theorem countFrame_tx : (s.countFrame p).links.tx = s.links.tx := rfl
@[simp] theorem countFrame_notices : (s.countFrame p).links.notices = s.links.notices := rfl
@[simp] theorem countFrame_image : (s.countFrame p).links.image = s.links.image := rfl
@[simp] theorem countFrame_inner : (s.countFrame p).inner = s.inner := rfl
@[simp] theorem dropFrame_inner : (s.dropFrame p).inner = s.inner := rfl
theorem countFrame_rx : (s.countFrame p).links.rx = change s.links.rx (rxIndex p) fun r =>
    { r with state := .hunt, gap := .stopped, wellFormed := (r.wellFormed + 1) % 65536 } := rfl
end

/-! ### A reply -/

section
variable (s : State)

@[simp] theorem reply_inner (p : Fin 9) (r : Reply) : (s.reply p r).inner = s.inner := rfl
@[simp] theorem reply_rx (p : Fin 9) (r : Reply) : (s.reply p r).links.rx = s.links.rx := rfl
@[simp] theorem reply_image (p : Fin 9) (r : Reply) : (s.reply p r).links.image = s.links.image := rfl
@[simp] theorem reply_notices (p : Fin 9) (r : Reply) :
    (s.reply p r).links.notices = s.links.notices := rfl

theorem reply_owedReplies (p q : Fin 9) (r : Reply) :
    (s.reply p r).owedReplies q = if q = p then s.owedReplies q ++ [r] else s.owedReplies q := by
  unfold State.reply State.updateTx State.owedReplies
  simp only [State.withLinks_links, change_get]
  by_cases h : q = p
  · subst h; simp
  · simp [h]

theorem reply_owedNotices (p : Fin 9) (c : Fin 8) (r : Reply) :
    (s.reply p r).owedNotices c = s.owedNotices c := by
  unfold State.reply State.updateTx State.owedNotices State.sentNotice
  simp only [State.withLinks_links, change_get]
  by_cases h : cellTx c = p
  · simp [-Fin.getElem_fin, h]
  · simp [-Fin.getElem_fin, h]

/-- A view of the transmitters alone. -/
theorem owedReplies_congr {s t : State} (h : t.links.tx = s.links.tx) (q : Fin 9) :
    t.owedReplies q = s.owedReplies q := by
  simp only [State.owedReplies, h]

/-- Two states with one `ground` have one set of receivers. -/
theorem rx_of_ground {s t : State} (h : t.ground = s.ground) : t.links.rx = s.links.rx := by
  have h2 := congrArg (fun s : State => s.links.rx) h
  exact h2

/-- Two states with one `ground` have one set of transmitters. -/
theorem tx_of_ground {s t : State} (h : t.ground = s.ground) : t.links.tx = s.links.tx := by
  have h2 := congrArg (fun s : State => s.links.tx) h
  exact h2

/-- Two states with one `ground` have one read image. -/
theorem image_of_ground {s t : State} (h : t.ground = s.ground) : t.links.image = s.links.image := by
  have h2 := congrArg (fun s : State => s.links.image) h
  exact h2

end

/-! ### A station row -/

/-- A station request completing on the station port, where its reply queue has room, is served and
answered. -/
theorem stationRow_answers {i : Instr} {code : Byte} {serve : StationService} {s : State}
    (hi : exec i s = s.stationRow .station code serve) (room : s.roomAt stationTx)
    (hrx : (serve (s.countFrame .station)).1.links.rx = (s.countFrame .station).links.rx)
    (htx : (serve (s.countFrame .station)).1.links.tx = s.links.tx) :
    ∃ t, StationAnswers i code (serve (s.countFrame .station)).2.1 (serve (s.countFrame .station)).2.2
        s t ∧
      t.inner = (serve (s.countFrame .station)).1.inner ∧
      t.links.image = (serve (s.countFrame .station)).1.links.image ∧
      ∀ c, t.owedNotices c = (serve (s.countFrame .station)).1.owedNotices c := by
  have hr : s.links.tx[(8 : Fin 9)].replies.length < 4 := room
  have he : s.stationRow .station code serve = .next (((serve (s.countFrame .station)).1.replyStation
      code (serve (s.countFrame .station)).2.1 (serve (s.countFrame .station)).2.2).finish) := by
    simp only [State.stationRow, State.answer, State.requestFrame, txIndex, if_pos hr,
      State.takeStation, State.reportFrame]
  refine ⟨_, ⟨hi.trans he, ⟨?_, ?_⟩, ?_⟩, ?_, ?_, ?_⟩
  · rw [finish_owedReplies, State.replyStation, reply_owedReplies, if_pos rfl,
      owedReplies_congr htx]
  · intro q hq
    rw [finish_owedReplies, State.replyStation, reply_owedReplies, if_neg hq,
      owedReplies_congr htx]
  · unfold Counted
    rw [finish_rx, State.replyStation, reply_rx, hrx, countFrame_rx]
  · rw [finish_inner, State.replyStation, reply_inner]
  · rw [finish_image, State.replyStation, reply_image]
  · intro c
    rw [finish_owedNotices, State.replyStation, reply_owedNotices]

/-! ### A cell row -/

/-- The state in which a cell's own request is served: its frame counted and its link heard (R165,
R181). -/
def State.heard (s : State) (c : Fin 8) : State := (s.countFrame (.cell c)).reportFrame (.cell c)

theorem heard_ground (s : State) (c : Fin 8) : (s.heard c).ground = (s.countFrame (.cell c)).ground :=
  rfl

@[simp] theorem clearMarkers_links (s : State) (c : Fin 8) : (s.clearMarkers c).links = s.links := rfl
@[simp] theorem clearMarkers_outlets (s : State) (c : Fin 8) :
    (s.clearMarkers c).outlets = s.outlets := rfl

theorem statusBlock_length (s : State) (c : Fin 8) : (s.statusBlock c).length = 18 := by
  have h8 : ∀ n, (u8 n).length = 1 := fun _ => rfl
  have h16 : ∀ n, (u16 n).length = 2 := fun _ => rfl
  have hf : ∀ b, (flagByte b).length = 1 := fun _ => rfl
  have ho8 : ∀ x, (opt8 x).length = 2 := by
    intro x; cases x <;> rfl
  have ho16 : ∀ x, (opt16 x).length = 3 := by
    intro x; cases x <;> rfl
  have hl : ∀ x, (openLotBytes x).length = 3 := by
    intro x
    cases x <;> rfl
  unfold State.statusBlock
  simp only [List.length_append, h8, h16, ho8, ho16, hl]

/-- The layout of a cell's status block (R184). -/
theorem statusBlock_layout (s : State) (c : Fin 8) : s.statusBlock c = s.blockBytes c ++
    [indicatorByte s.balance.markers[c] s.cells[c].restored s.outlets[cellTx c].gate] := by
  have h8 : ∀ x : Option (Fin 64), opt8 (x.map Fin.val) = (match x with
      | none => [0, 0]
      | some p => [1, BitVec.ofNat 8 p.1]) := by
    intro x; cases x <;> rfl
  have h16 : ∀ v : Valve, opt16 v.pendingValue = (match v.pending with
      | none => [0, 0, 0]
      | some p => 1 :: u16 p.value) := by
    intro v
    unfold Valve.pendingValue
    cases v.pending <;> rfl
  have hl : ∀ x, openLotBytes x = (match x with
      | none => [0, 0, 0]
      | some (id, l) => [1, BitVec.ofNat 8 id.1, BitVec.ofNat 8 l.state.code]) := by
    intro x
    cases x <;> rfl
  unfold State.statusBlock State.blockBytes
  simp only [h8, h16, hl, List.append_assoc]
  rfl

/-- What the first bytes of a status block show is part of `inner`. -/
theorem blockBytes_inner {s t : State} (h : t.inner = s.inner) (c : Fin 8) :
    t.blockBytes c = s.blockBytes c := by
  have hb : ∀ u : State, u.inner.blockBytes c = u.blockBytes c := fun _ => rfl
  rw [← hb t, h, hb]

/-- Two states with one `inner` have one set of outlets. -/
theorem outlets_of_inner {s t : State} (h : t.inner = s.inner) : t.outlets = s.outlets := by
  have h2 := congrArg (fun s : State => s.outlets) h
  exact h2

/-- The markers a status block clears are none of its first bytes. -/
theorem clearMarkers_blockBytes (s : State) (c : Fin 8) :
    (s.clearMarkers c).blockBytes c = s.blockBytes c := by
  unfold State.blockBytes State.clearMarkers State.updateCell
  simp only [State.withCells_cells, State.withBalance_cells, change_get, if_true]
  rfl

/-- A cell request completing on its own port, where its reply queue has room, is served and answered
with the status block, whose markers are then cleared. -/
theorem cellRow_answers {i : Instr} {c : Fin 8} {code : Byte} {serve : CellService} {s : State}
    (hi : exec i s = s.cellRow (.cell c) code serve) (room : s.roomAt (cellTx c))
    (hrx : (serve c (s.heard c)).1.links.rx = (s.heard c).links.rx)
    (htx : (serve c (s.heard c)).1.links.tx = s.links.tx)
    (hm : s.balance.markers[c] = true → (serve c (s.heard c)).1.balance.markers[c] = true)
    (hl : (serve c (s.heard c)).1.cells[c].restored = (s.heard c).cells[c].restored) :
    ∃ t, CellAnswers c i code (serve c (s.heard c)).2 s t ∧
      Answered (cellTx c) ⟨code, (serve c (s.heard c)).2, (serve c (s.heard c)).1.statusBlock c⟩ s t ∧
      t.inner = ((serve c (s.heard c)).1.clearMarkers c).inner ∧
      t.links.image = (serve c (s.heard c)).1.links.image ∧
      ∀ d, t.owedNotices d = (serve c (s.heard c)).1.owedNotices d := by
  have hr : s.links.tx[cellTx c].replies.length < 4 := room
  have he : s.cellRow (.cell c) code serve = .next (((serve c (s.heard c)).1.replyCell c code
      (serve c (s.heard c)).2).finish) := by
    simp only [State.cellRow, State.answer, State.requestFrame, txIndex, if_pos hr, State.takeCell,
      State.heard]
  have ha : Answered (cellTx c)
      ⟨code, (serve c (s.heard c)).2, (serve c (s.heard c)).1.statusBlock c⟩ s
      (((serve c (s.heard c)).1.replyCell c code (serve c (s.heard c)).2).finish) := by
    refine ⟨?_, ?_⟩
    · rw [finish_owedReplies, State.replyCell, reply_owedReplies, if_pos rfl, owedReplies_congr]
      rw [clearMarkers_links, htx]
    · intro q hq
      rw [finish_owedReplies, State.replyCell, reply_owedReplies, if_neg hq, owedReplies_congr]
      rw [clearMarkers_links, htx]
  have hin : (((serve c (s.heard c)).1.replyCell c code (serve c (s.heard c)).2).finish).inner =
      ((serve c (s.heard c)).1.clearMarkers c).inner := by
    rw [finish_inner, State.replyCell, reply_inner]
  have hr : (s.heard c).cells[c].restored = (s.cells[c].restored || s.cells[c].link == .lost) := by
    simp only [State.heard, State.reportFrame, State.updateCell, State.withCells_cells, change_get,
      if_true, countFrame_cells]
    rfl
  have hb := (blockBytes_inner hin c).trans (clearMarkers_blockBytes _ c)
  have hg := (outlets_of_inner hin).trans (clearMarkers_outlets _ c)
  have hblock := statusBlock_layout (serve c (s.heard c)).1 c
  refine ⟨_, ⟨hi.trans he, ?_, _, hm, ?_⟩, ha, hin, ?_, ?_⟩
  · unfold Counted
    rw [finish_rx, State.replyCell, reply_rx, clearMarkers_links, hrx]
    rfl
  · rw [hb, hg, ← hr, ← hl, ← hblock]
    exact ha
  · rw [finish_image, State.replyCell, reply_image, clearMarkers_links]
  · intro d
    rw [finish_owedNotices, State.replyCell, reply_owedNotices]
    rfl

end Sys2Proof.Machine
end

