-- ==== Sys2Proof/Laws/Answers.lean ====
section
/-! SUPPORT. From how a command is served to what the statements say of it: `StationDoes`,
`StationSettles`, `CellDoes`, `CellSettles`, `Does`, `Settles`, `Receives`. -/

namespace Sys2Proof.Machine

/-! ### Overrun flags at the end of an event -/

theorem startNotice_overrun (s : State) (c : Fin 8) (p q : Fin 9) :
    (s.startNotice c p).links.tx[q].overrun = s.links.tx[q].overrun := by
  unfold State.startNotice
  split
  · rfl
  · split
    · simp only [State.withLinks_links, change_get]
      by_cases h : q = p
      · subst h; simp
      · simp [h]
    · rfl

theorem startTx_overrun (s : State) (p q : Fin 9) :
    (s.startTx p).links.tx[q].overrun = s.links.tx[q].overrun := by
  unfold State.startTx
  split
  · rfl
  · split
    · simp only [State.withLinks_links, change_get]
      by_cases h : q = p
      · subst h; simp
      · simp [h]
    · split
      · exact startNotice_overrun ..
      · rfl

theorem startAllTx_overrun (s : State) (q : Fin 9) :
    s.startAllTx.links.tx[q].overrun = s.links.tx[q].overrun := by
  unfold State.startAllTx
  exact foldl_keeps (fun s : State => s.links.tx[q].overrun) _ _ _ fun s p => startTx_overrun s p q

theorem drive_links (s : State) : s.drive.links = s.links := rfl

theorem finish_overrun (s : State) (q : Fin 9) :
    s.finish.links.tx[q].overrun = s.links.tx[q].overrun := by
  rw [State.finish, drive_links, startAllTx_overrun, refreshFlags_links]

theorem reply_overrun (s : State) (p q : Fin 9) (r : Reply) :
    (s.reply p r).links.tx[q].overrun = s.links.tx[q].overrun := by
  unfold State.reply State.updateTx
  simp only [State.withLinks_links, change_get]
  by_cases h : q = p
  · subst h; simp
  · simp [h]

/-! ### Station requests -/

/-- The next state of a station request that is taken. -/
theorem stationRow_next {code : Byte} {serve : StationService} {s : State}
    (room : s.roomAt stationTx) :
    s.stationRow .station code serve = .next (((serve (s.countFrame .station)).1.replyStation
      code (serve (s.countFrame .station)).2.1 (serve (s.countFrame .station)).2.2).finish) := by
  have hr : s.links.tx[(8 : Fin 9)].replies.length < 4 := room
  simp only [State.stationRow, State.answer, State.requestFrame, txIndex, if_pos hr,
    State.takeStation, State.reportFrame]

/-- A station request that is taken, whose service leaves receivers, transmitters and read image. -/
theorem station_answers {i : Instr} {code : Byte} {serve : StationService} {s : State}
    (hi : exec i s = s.stationRow .station code serve) (room : s.roomAt stationTx)
    (hrx : (serve (s.countFrame .station)).1.links.rx = (s.countFrame .station).links.rx)
    (htx : (serve (s.countFrame .station)).1.links.tx = s.links.tx) :
    ∃ t, StationAnswers i code (serve (s.countFrame .station)).2.1 (serve (s.countFrame .station)).2.2
        s t ∧
      t = (((serve (s.countFrame .station)).1.replyStation code (serve (s.countFrame .station)).2.1
        (serve (s.countFrame .station)).2.2).finish) ∧
      t.inner = (serve (s.countFrame .station)).1.inner ∧
      t.links.image = (serve (s.countFrame .station)).1.links.image ∧
      (∀ c, t.owedNotices c = (serve (s.countFrame .station)).1.owedNotices c) ∧
      ∀ p : Fin 9, t.links.tx[p].overrun = s.links.tx[p].overrun := by
  refine ⟨_, ⟨hi.trans (stationRow_next room), ⟨?_, ?_⟩, ?_⟩, rfl, ?_, ?_, ?_, ?_⟩
  · rw [finish_owedReplies, State.replyStation, reply_owedReplies, if_pos rfl,
      owedReplies_congr htx]
  · intro q hq
    rw [finish_owedReplies, State.replyStation, reply_owedReplies, if_neg hq,
      owedReplies_congr htx]
  · unfold Counted
    rw [finish_rx, State.replyStation, reply_rx, hrx, countFrame_rx]
  · rw [finish_inner, State.replyStation, reply_inner]
  · rw [finish_image, State.replyStation, reply_image]
  · intro c
    rw [finish_owedNotices, State.replyStation, reply_owedNotices]
  · intro p
    rw [finish_overrun, State.replyStation, reply_overrun, htx]

/-- A station request whose service touches no link. -/
theorem stationDoes_of {i : Instr} {code : Byte} {serve : StationService} {s u : State} {v : Verdict}
    {body : List Byte} (hi : exec i s = s.stationRow .station code serve) (room : s.roomAt stationTx)
    {w : State} (h : serve (s.countFrame .station) = (w, v, body))
    (hl : w.links = (s.countFrame .station).links) (hu : w.inner = u.inner) :
    StationDoes i code v body s u := by
  have h1 : (serve (s.countFrame .station)).1.links = (s.countFrame .station).links := by rw [h]; exact hl
  obtain ⟨t, ha, -, hin, him, hno, hov⟩ := station_answers hi room (by rw [h1]) (by rw [h1]; rfl)
  refine ⟨t, ?_, ?_, ?_, hov, ?_⟩
  · rw [h] at ha; exact ha
  · rw [hin, h]; exact hu
  · rw [him, h1]; rfl
  · intro c
    rw [hno]
    simp only [State.owedNotices, State.sentNotice, h1]
    rfl

/-- A station request refused. -/
theorem stationDoes_refused {i : Instr} {code : Byte} {serve : StationService} {s : State}
    {v : Verdict} {body : List Byte} (hi : exec i s = s.stationRow .station code serve)
    (room : s.roomAt stationTx)
    (h : serve (s.countFrame .station) = (s.countFrame .station, v, body)) :
    StationDoes i code v body s s :=
  stationDoes_of hi room h rfl rfl

/-- A station request whose service keeps the links' ground. -/
theorem stationSettles_of {i : Instr} {code : Byte} {serve : StationService} {s u : State} {v : Verdict}
    {after : State → Prop} (hi : exec i s = s.stationRow .station code serve)
    (room : s.roomAt stationTx) {w : State} (h : serve (s.countFrame .station) = (w, v, []))
    (hrx : w.links.rx = (s.countFrame .station).links.rx) (htx : w.links.tx = s.links.tx)
    (him : w.links.image = s.links.image) (hu : w.inner.steady = u.inner.steady)
    (ha : ∀ t : State, t.inner = w.inner → after t) : StationSettles i code v s u after := by
  obtain ⟨t, hans, -, hin, himg, hno, hov⟩ := station_answers hi room (by rw [h]; exact hrx)
    (by rw [h]; exact htx)
  rw [h] at hans hin himg
  exact ⟨t, hans, by rw [hin]; exact hu, ⟨himg.trans him, hov⟩, ha t hin⟩

/-! ### Cell requests -/

/-- What the status block's forming leaves, `touched` names. -/
theorem clearMarkers_heard_inner (s : State) (c : Fin 8) :
    ((s.heard c).clearMarkers c).inner = (s.touched c).inner := by
  have h : (s.heard c).clearMarkers c = ((s.countFrame (.cell c)).updateCell c CellRecord.hear).clearMarkers c :=
    rfl
  rw [h]
  simp only [State.clearMarkers, State.updateCell, State.touched, change]
  have hv : ∀ (v : Vector CellRecord 8) (f g : CellRecord → CellRecord),
      put (put v c (f v[c])) c (g (put v c (f v[c]))[c]) = put v c (g (f v[c])) := by
    intro v f g
    ext j hj
    all_goals (simp only [put_getElem]; split <;> simp_all)
  have key : ∀ x : CellRecord,
      ({ x.hear with restored := false } : CellRecord) =
        { x with link := .linked, linkTimer := .running x.config.linkTimeout, restored := false } :=
    fun _ => rfl
  simp only [State.withCells_cells, State.withBalance_cells, State.withCells_balance, countFrame_cells,
    countFrame_balance]
  rw [hv s.cells CellRecord.hear fun x => { x with restored := false }, key]
  rfl

/-- The next state of a cell request that is taken. -/
theorem cellRow_next {c : Fin 8} {code : Byte} {serve : CellService} {s : State}
    (room : s.roomAt (cellTx c)) :
    s.cellRow (.cell c) code serve = .next (((serve c (s.heard c)).1.replyCell c code
      (serve c (s.heard c)).2).finish) := by
  have hr : s.links.tx[cellTx c].replies.length < 4 := room
  simp only [State.cellRow, State.answer, State.requestFrame, txIndex, if_pos hr, State.takeCell,
    State.heard]

/-- A cell request that is taken, whose service leaves receivers and transmitters. -/
theorem cell_answers {i : Instr} {c : Fin 8} {code : Byte} {serve : CellService} {s : State}
    (hi : exec i s = s.cellRow (.cell c) code serve) (room : s.roomAt (cellTx c))
    (hrx : (serve c (s.heard c)).1.links.rx = (s.heard c).links.rx)
    (htx : (serve c (s.heard c)).1.links.tx = s.links.tx)
    (hm : s.balance.markers[c] = true → (serve c (s.heard c)).1.balance.markers[c] = true)
    (hr : (serve c (s.heard c)).1.cells[c].restored = (s.heard c).cells[c].restored) :
    ∃ t, CellAnswers c i code (serve c (s.heard c)).2 s t ∧
      Answered (cellTx c) ⟨code, (serve c (s.heard c)).2, (serve c (s.heard c)).1.statusBlock c⟩ s t ∧
      t.inner = ((serve c (s.heard c)).1.clearMarkers c).inner ∧
      t.links.image = (serve c (s.heard c)).1.links.image ∧
      (∀ d, t.owedNotices d = (serve c (s.heard c)).1.owedNotices d) ∧
      ∀ p : Fin 9, t.links.tx[p].overrun = s.links.tx[p].overrun := by
  obtain ⟨t, h1, h2, h3, h4, h5⟩ := cellRow_answers hi room hrx htx hm hr
  refine ⟨t, h1, h2, h3, h4, h5, ?_⟩
  have he := h1.1
  rw [hi, cellRow_next room] at he
  injection he with he
  intro p
  rw [← he, finish_overrun, State.replyCell, reply_overrun, clearMarkers_links, htx]

/-- A cell request whose service touches no link. -/
theorem cellDoes_of {i : Instr} {c : Fin 8} {code : Byte} {serve : CellService} {s u : State}
    {v : Verdict} (hi : exec i s = s.cellRow (.cell c) code serve) (room : s.roomAt (cellTx c))
    {w : State} (h : serve c (s.heard c) = (w, v)) (hl : w.links = (s.heard c).links)
    (hm : s.balance.markers[c] = true → w.balance.markers[c] = true)
    (hr : w.cells[c].restored = (s.heard c).cells[c].restored)
    (hu : (w.clearMarkers c).inner = (u.touched c).inner) : CellDoes c i code v s u := by
  obtain ⟨t, ha, -, hin, him, hno, hov⟩ := cell_answers hi room (by rw [h, hl]) (by rw [h, hl]; rfl)
    (by rw [h]; exact hm) (by rw [h]; exact hr)
  rw [h] at ha hin him hno
  refine ⟨t, ha, hin.trans hu, ?_, hov, ?_⟩
  · rw [him, hl]; rfl
  · intro d
    rw [hno]
    simp only [State.owedNotices, State.sentNotice, hl]
    rfl

/-- A cell request that changes nothing. -/
theorem cellDoes_refused {i : Instr} {c : Fin 8} {code : Byte} {serve : CellService} {s : State}
    {v : Verdict} (hi : exec i s = s.cellRow (.cell c) code serve) (room : s.roomAt (cellTx c))
    (h : serve c (s.heard c) = (s.heard c, v)) : CellDoes c i code v s s :=
  cellDoes_of hi room h rfl id rfl (clearMarkers_heard_inner s c)

/-- A cell request whose service keeps the links' ground. -/
theorem cellSettles_of {i : Instr} {c : Fin 8} {code : Byte} {serve : CellService} {s u : State}
    {v : Verdict} {after : State → Prop} (hi : exec i s = s.cellRow (.cell c) code serve)
    (room : s.roomAt (cellTx c)) {w : State} (h : serve c (s.heard c) = (w, v))
    (hg : w.ground = (s.heard c).ground)
    (hm : s.balance.markers[c] = true → w.balance.markers[c] = true)
    (hr : w.cells[c].restored = (s.heard c).cells[c].restored)
    (hu : (w.clearMarkers c).inner.steady = (u.touched c).inner.steady)
    (ha : ∀ t : State, t.inner = (w.clearMarkers c).inner → after t) :
    CellSettles c i code v s u after := by
  obtain ⟨t, hans, -, hin, him, hno, hov⟩ := cell_answers hi room
    (by rw [h]; exact rx_of_ground hg) (by rw [h]; exact (tx_of_ground hg).trans rfl)
    (by rw [h]; exact hm) (by rw [h]; exact hr)
  rw [h] at hans hin him
  exact ⟨t, hans, by rw [hin]; exact hu, ⟨him.trans ((image_of_ground hg).trans rfl), hov⟩, ha t hin⟩

/-! ### Commands that are no frames -/

/-- A command whose event touches no link. -/
theorem does_of {i : Instr} {s u w : State} (hi : exec i s = w.answer) (hl : w.links = s.links)
    (hu : w.inner = u.inner) : Does i s u := by
  refine ⟨w.finish, hi, by rw [finish_inner]; exact hu, ⟨by rw [finish_rx, hl], ?_⟩, ?_, ?_, ?_⟩
  · intro p
    rw [finish_owedReplies]
    exact owedReplies_congr (by rw [hl]) p
  · rw [finish_image, hl]
  · intro p
    rw [finish_overrun, hl]
  · intro c
    rw [finish_owedNotices]
    simp only [State.owedNotices, State.sentNotice, hl]

/-- A command whose event keeps the links' ground. -/
theorem settles_of {i : Instr} {s u w : State} {after : State → Prop} (hi : exec i s = w.answer)
    (hg : w.ground = s.ground) (hu : w.inner.steady = u.inner.steady)
    (ha : ∀ t : State, t.inner = w.inner → after t) : Settles i s u after := by
  refine ⟨w.finish, hi, by rw [finish_inner]; exact hu, ⟨by rw [finish_rx, rx_of_ground hg], ?_⟩,
    ⟨?_, ?_⟩, ha _ (finish_inner w)⟩
  · intro p
    rw [finish_owedReplies]
    exact owedReplies_congr (tx_of_ground hg) p
  · rw [finish_image, image_of_ground hg]
  · intro p
    rw [finish_overrun, tx_of_ground hg]

/-- A command that changes one receiver. -/
theorem receives_of {i : Instr} {s : State} {p : Port} {f : Receiver → Receiver}
    (hi : exec i s = (s.updateRx p f).answer) : Receives i p f s := by
  refine ⟨_, hi, by rw [finish_inner]; rfl, by rw [finish_rx]; rfl, ?_, ?_, ?_, ?_⟩
  · intro q
    rw [finish_owedReplies]
    exact owedReplies_congr rfl q
  · rw [finish_image]; rfl
  · intro q
    rw [finish_overrun]; rfl
  · intro c
    rw [finish_owedNotices]; rfl

end Sys2Proof.Machine
end

