-- ==== Sys2Proof/Laws/Valves.lean ====
section
/-! SUPPORT. The grant arbiter's operations keep every counted grant at or above the commanded one
(R124), through a whole evaluation. -/

namespace Sys2Proof.Machine

/-! ### Valve records -/

theorem get_set (v : CellValves) (k k' : ValveKind) (x : Valve) :
    (v.set k x).get k' = if k = k' then x else v.get k' := by
  cases k <;> cases k' <;> rfl

theorem valve_setValve (s : State) (c d : Fin 8) (k k' : ValveKind) (x : Valve) :
    (s.setValve c k x).valve d k' = if c = d ∧ k = k' then x else s.valve d k' := by
  unfold State.setValve State.valve
  simp only [State.withGrants, change_get]
  by_cases h : d = c
  · subst h
    simp [get_set]
  · simp [h, Ne.symm h]

/-- A valve as R124 has it. -/
def Valve.ok (v : Valve) : Prop := v.commanded ≤ v.counted

theorem valvesOk_iff (s : State) : s.valvesOk ↔ ∀ c k, (s.valve c k).ok := Iff.rfl

theorem valvesOk_of {s t : State} (h : t.grants.valves = s.grants.valves) (hs : s.valvesOk) :
    t.valvesOk := by
  intro c k
  have := hs c k
  unfold State.valve at *
  rwa [h]

theorem valvesOk_setValve {s : State} {c : Fin 8} {k : ValveKind} {x : Valve} (hs : s.valvesOk)
    (hx : x.ok) : (s.setValve c k x).valvesOk := by
  intro d k'
  rw [valve_setValve]
  split
  · exact hx
  · exact hs d k'

theorem command_ok {v : Valve} (h : v.ok) (g settle : Nat) : (v.command g settle).ok := by
  unfold Valve.ok at *
  unfold Valve.command
  simp only
  split
  · exact Nat.le_max_right _ _
  · split
    · simp only; omega
    · exact h

theorem command_commanded (v : Valve) (g settle : Nat) : (v.command g settle).commanded = g := by
  unfold Valve.command
  simp only
  split
  · rfl
  · split
    · rfl
    · omega

section
variable {s : State} (h : s.valvesOk)
include h

theorem commandValve_valvesOk (c : Fin 8) (k : ValveKind) (g : Nat) :
    (s.commandValve c k g).valvesOk :=
  valvesOk_setValve h (command_ok (h c k) _ _)

theorem setRequest_valvesOk (c : Fin 8) (k : ValveKind) (p : PendingRequest) :
    (s.setRequest c k p).valvesOk := valvesOk_setValve h (h c k)

theorem restStamp_valvesOk : s.restStamp.valvesOk := by
  unfold State.restStamp
  split
  · exact h
  · exact valvesOk_of rfl h

theorem takeStamp_valvesOk : s.takeStamp.valvesOk := valvesOk_of rfl h

theorem post_valvesOk (c : Fin 8) (n : Notice) : (s.post c n).valvesOk := valvesOk_of rfl h

theorem postGrant_valvesOk (c : Fin 8) (r : GrantReason) : (s.postGrant c r).valvesOk :=
  post_valvesOk h _ _

theorem clearRequest_valvesOk (c : Fin 8) (k : ValveKind) : (s.clearRequest c k).valvesOk :=
  restStamp_valvesOk (valvesOk_setValve h (h c k))

theorem withdraw_valvesOk (c : Fin 8) : (s.withdraw c).valvesOk := by
  have h1 := clearRequest_valvesOk (clearRequest_valvesOk
    (commandValve_valvesOk (commandValve_valvesOk h c .flood 0) c .hp 0) c .flood) c .hp
  unfold State.withdraw
  simp only
  split
  · exact postGrant_valvesOk h1 _ _
  · exact h1

theorem requestDemands_valvesOk (c : Fin 8) : (s.requestDemands c).valvesOk := by
  unfold State.requestDemands
  simp only
  have h1 : ∀ b : Bool, ∀ p, (if b then s.setRequest c .flood p else s).valvesOk := by
    intro b p
    cases b
    · exact h
    · exact setRequest_valvesOk h _ _ _
  have h2 : ∀ {t : State}, t.valvesOk → ∀ b : Bool, ∀ p,
      (if b then t.setRequest c .hp p else t).valvesOk := by
    intro t ht b p
    cases b
    · exact ht
    · exact setRequest_valvesOk ht _ _ _
  have h3 := h2 (h1 (s.demandsEntered c).1 (newRequest s.cells[c].working.flood s.grants.stamp))
    (s.demandsEntered c).2 (newRequest s.cells[c].working.hp s.grants.stamp)
  split
  · exact takeStamp_valvesOk h3
  · exact h3

theorem enterRestore_valvesOk (c : Fin 8) (k : ValveKind) (n : Nat) :
    (s.enterRestore c k n).valvesOk := takeStamp_valvesOk (setRequest_valvesOk h _ _ _)

theorem lowlowWithdraw_valvesOk (c : Fin 8) : (s.lowlowWithdraw c).valvesOk := by
  unfold State.lowlowWithdraw
  simp only
  split
  · exact h
  · exact postGrant_valvesOk (enterRestore_valvesOk (commandValve_valvesOk h _ _ _) _ _ _) _ _

theorem handleLowlow_valvesOk : s.handleLowlow.valvesOk := by
  unfold State.handleLowlow
  simp only
  split
  · split
    · exact valvesOk_of rfl h
    · exact h
  · split
    · exact foldl_holds State.valvesOk _ _ _ (fun _ c ht => lowlowWithdraw_valvesOk ht c)
        (valvesOk_of rfl h)
    · exact h

theorem dropHp_valvesOk (r : GrantReason) (c : Fin 8) : (State.dropHp r s c).valvesOk := by
  unfold State.dropHp
  simp only
  apply clearRequest_valvesOk
  split
  · exact h
  · exact postGrant_valvesOk (commandValve_valvesOk h _ _ _) _ _

theorem examineHeaders_valvesOk : s.examineHeaders.valvesOk := by
  unfold State.examineHeaders
  simp only
  split
  · exact foldl_holds State.valvesOk _ _ _ (fun _ c ht => dropHp_valvesOk ht _ c)
      (valvesOk_of rfl h)
  · exact valvesOk_of rfl h

end

/-! ### Shedding -/

theorem firstBy_mem {α : Type} {better : α → α → Bool} {x : α} :
    ∀ {l : List α}, firstBy better l = some x → x ∈ l := by
  intro l
  induction l with
  | nil => intro h; cases h
  | cons a l ih =>
    intro h
    unfold firstBy at h
    split at h
    · cases h; exact List.mem_cons_self ..
    · rename_i y hy
      split at h
      · cases h; exact List.mem_cons_of_mem _ (ih hy)
      · cases h; exact List.mem_cons_self ..

/-- A victim's grant falls to below what it is commanded to (R136). -/
theorem victim_value {s : State} {v : ShedStep} (h : s.victim = some v) :
    v.value ≤ (s.valve v.cell v.kind).commanded := by
  have hz : ∀ {k ph w}, s.victimTo0 k ph = some w → w.value ≤ (s.valve w.cell w.kind).commanded := by
    intro k ph w hw
    unfold State.victimTo0 at hw
    rw [Option.map_eq_some_iff] at hw
    obtain ⟨c, -, rfl⟩ := hw
    exact Nat.zero_le _
  have ha : ∀ {w}, s.victimA = some w → w.value ≤ (s.valve w.cell w.kind).commanded := by
    intro w hw
    unfold State.victimA at hw
    rw [Option.map_eq_some_iff] at hw
    obtain ⟨c, hc, rfl⟩ := hw
    have h0 := (List.mem_filter.mp (firstBy_mem hc)).2
    have h1 : 0 < (s.valve c .flood).commanded - s.cells[c].config.floor := of_decide_eq_true h0
    show s.cells[c].config.floor ≤ (s.valve c .flood).commanded
    omega
  unfold State.victim at h
  split at h
  · exact hz h
  · split at h
    · rename_i w hw
      cases h
      exact ha hw
    · split at h
      · rename_i w hw
        cases h
        exact hz hw
      · exact hz h

section
variable {s : State} (h : s.valvesOk)
include h

theorem takeStep_valvesOk {v : ShedStep} (hv : v.value ≤ (s.valve v.cell v.kind).commanded) :
    (s.takeStep v).valvesOk := by
  have h1 : (s.setValve v.cell v.kind { s.valve v.cell v.kind with
      commanded := v.value, timer := .stopped }).valvesOk :=
    valvesOk_setValve h (Nat.le_trans hv (h v.cell v.kind))
  exact valvesOk_of rfl (postGrant_valvesOk (enterRestore_valvesOk h1 v.cell v.kind v.before) v.cell
    v.phase.reason)

theorem seekVictim_valvesOk : s.seekVictim.valvesOk := by
  unfold State.seekVictim
  split
  · rename_i v hv
    exact takeStep_valvesOk h (victim_value hv)
  · exact valvesOk_of rfl h

theorem handleShed_valvesOk (b : Bool) : (s.handleShed b).valvesOk := by
  unfold State.handleShed
  simp only
  split
  · split
    · exact seekVictim_valvesOk (valvesOk_of rfl h)
    · exact h
  · split
    · split
      · exact seekVictim_valvesOk h
      · exact valvesOk_of rfl h
    · exact h
  · split
    · exact seekVictim_valvesOk h
    · exact valvesOk_of rfl h

theorem setBound_valvesOk (c : Fin 8) (k : ValveKind) (b : Bound) : (s.setBound c k b).valvesOk := by
  unfold State.setBound
  split
  · exact setRequest_valvesOk h _ _ _
  · exact h

theorem boundValve_valvesOk (x : Fin 8 × ValveKind) : (s.boundValve x).valvesOk := by
  unfold State.boundValve
  split
  · exact setBound_valvesOk h _ _ _
  · exact h

theorem commitmentUpdate_valvesOk : s.commitmentUpdate.valvesOk := valvesOk_of rfl h

end

/-! ### The grant pass and the handling of a result -/

theorem serve_valvesOk {p : Pass} (h : p.st.valvesOk) (w : Waiting) : (p.serve w).st.valvesOk := by
  unfold Pass.serve Pass.serveFlood Pass.serveHp Pass.grant
  simp only
  split
  · split
    · split
      · exact clearRequest_valvesOk (commandValve_valvesOk h _ _ _) _ _
      · exact setBound_valvesOk (commandValve_valvesOk h _ _ _) _ _ _
    · exact setBound_valvesOk h _ _ _
  · split
    · split
      · exact clearRequest_valvesOk (commandValve_valvesOk h _ _ _) _ _
      · exact setBound_valvesOk h _ _ _
    · exact setBound_valvesOk h _ _ _

theorem postIncreases_valvesOk {s : State} (h : s.valvesOk) (g : List Waiting) :
    (s.postIncreases g).valvesOk :=
  foldl_holds State.valvesOk _ _ _ (fun _ _ ht => postGrant_valvesOk ht _ _) h

theorem grantPass_valvesOk {s : State} (h : s.valvesOk) : s.grantPass.valvesOk := by
  have hp : ∀ l : List Waiting, ∀ p : Pass, p.st.valvesOk → (l.foldl Pass.serve p).st.valvesOk :=
    fun l p hp => foldl_holds (fun p : Pass => p.st.valvesOk) _ _ _ (fun _ w hq => serve_valvesOk hq w) hp
  unfold State.grantPass
  simp only
  split
  · exact postIncreases_valvesOk (hp _ _ h) _
  · exact commitmentUpdate_valvesOk (postIncreases_valvesOk (hp _ _ h) _)

theorem handleResult_valvesOk {s : State} (h : s.valvesOk) (b : Bool) :
    (s.handleResult b).valvesOk := by
  have h1 := handleShed_valvesOk (handleLowlow_valvesOk h) b
  unfold State.handleResult
  simp only
  apply foldl_holds State.valvesOk _ _ _ (fun _ x ht => boundValve_valvesOk ht x)
  split
  · exact grantPass_valvesOk h1
  · exact h1

theorem evaluate_valvesOk {s : State} (h : s.valvesOk) (b : Bool) : (s.evaluate b).valvesOk := by
  have h1 : s.evaluateBalance.valvesOk := valvesOk_of rfl h
  unfold State.evaluate
  split
  · exact handleResult_valvesOk h1 b
  · exact h1

end Sys2Proof.Machine
end

