-- ==== Sys2Proof/Laws/Exceptions.lean ====
section
/-! SUPPORT. What the operations over exceptions, masks and HOLD do (R117 to R120), the routing
condition (R64), and the requests that ask for more than their valve's grant (R127, R137). -/

namespace Sys2Proof.Machine

/-! ### Flags, masks, HOLD -/

theorem any_without_iff (e m : Exceptions) : (e.without m).any = true ↔ Unmasks e m := by
  simp [Exceptions.any, Exceptions.without, Unmasks, or_assoc]

theorem unmasks_iff (b : Balance) (m : Exceptions) :
    b.unmasks m = true ↔ Unmasked b.sticky b.masked m := by
  have bit : ∀ s old new : Bool, (s && !new && !(s && !old)) = (s && old && !new) := by decide
  simp only [Balance.unmasks, Exceptions.any, Exceptions.without, bit]
  simp [Unmasked, or_assoc, and_assoc]

theorem holdOk_examineHold (s : State) (b : Balance) : (s.withBalance b.examineHold).holdOk := rfl

@[simp] theorem setMasks_sticky (b : Balance) (m : Exceptions) :
    (b.setMasks m).sticky = b.sticky := by
  unfold Balance.setMasks
  dsimp only
  split <;> rfl

@[simp] theorem setMasks_masked (b : Balance) (m : Exceptions) : (b.setMasks m).masked = m := by
  unfold Balance.setMasks
  dsimp only
  split <;> rfl

@[simp] theorem setMasks_hold (b : Balance) (m : Exceptions) :
    (b.setMasks m).hold = (b.sticky.without m).any := by
  unfold Balance.setMasks
  dsimp only
  split <;> rfl

/-- The markers after SET_MASKS's own part (R118, R119). -/
theorem setMasks_markers (b : Balance) (m : Exceptions) (c : Fin 8) :
    (b.setMasks m).markers[c] = true ↔ b.markers[c] = true ∨ Unmasked b.sticky b.masked m ∨
      (b.hold = false ∧ Unmasks b.sticky m) := by
  unfold Balance.setMasks
  dsimp only
  split
  · rename_i h
    simp only [Balance.examineHold, Bool.or_eq_true, Bool.and_eq_true, Bool.not_eq_true',
      any_without_iff, unmasks_iff] at h
    simp only [Balance.markAll, Fin.getElem_fin, Vector.getElem_replicate, true_iff]
    tauto
  · rename_i h
    simp only [Balance.examineHold, Bool.or_eq_true, Bool.and_eq_true, Bool.not_eq_true',
      any_without_iff, unmasks_iff] at h
    simp only [Balance.examineHold]
    tauto

@[simp] theorem clearSticky_masked (b : Balance) (x : Exceptions) :
    (b.clearSticky x).masked = b.masked := rfl
@[simp] theorem clearSticky_sticky (b : Balance) (x : Exceptions) :
    (b.clearSticky x).sticky = b.sticky.without x := rfl
@[simp] theorem clearSticky_markers (b : Balance) (x : Exceptions) :
    (b.clearSticky x).markers = b.markers := rfl

/-! ### The routing condition -/

/-- ROUTING's condition, flight by flight (R64). -/
theorem routingCondition_iff (s : State) : s.routingCondition = true ↔
    ∃ d m purge, d ≤ s.trunk.config.routingLead ∧ d < s.trunk.config.carry ∧
      s.material (s.trunk.flight d) = some (m, purge) ∧
      ¬(s.routing.state = .settled ∧ s.routing.position = m) := by
  unfold State.routingCondition State.nearOffsets
  simp only [List.any_eq_true, List.mem_filter, List.mem_range, decide_eq_true_eq]
  constructor
  · rintro ⟨d, ⟨h1, h2⟩, h⟩
    split at h
    · rename_i m purge hm
      exact ⟨d, m, purge, by omega, h2, hm, by simpa [-not_and, not_and_or] using h⟩
    · cases h
  · rintro ⟨d, m, purge, h1, h2, hm, h⟩
    refine ⟨d, ⟨by omega, h2⟩, ?_⟩
    rw [hm]
    simpa [-not_and, not_and_or] using h

/-! ### Pending requests above the grant -/

theorem requestsOk_of {s t : State} (h : t.grants.valves = s.grants.valves) (hs : s.requestsOk) :
    t.requestsOk := by
  intro c k p hp
  have := hs c k p
  unfold State.valve at *
  rw [h] at hp ⊢
  exact this hp

theorem requestsOk_setValve {s : State} {c : Fin 8} {k : ValveKind} {x : Valve} (hs : s.requestsOk)
    (hx : ∀ p, x.pending = some p → x.commanded < p.value) : (s.setValve c k x).requestsOk := by
  intro d k' p hp
  rw [valve_setValve] at hp ⊢
  split at hp
  · rename_i h
    rw [if_pos h]
    exact hx p hp
  · rename_i h
    rw [if_neg h]
    exact hs d k' p hp

/-- A restoration request asks for at least the grant that was taken (R137). -/
theorem restoreRequest_value (existing : Option PendingRequest) (before stamp : Nat) :
    before ≤ (restoreRequest existing before stamp).value := by
  unfold restoreRequest
  split
  · split
    · exact Nat.le_refl _
    · rename_i h
      exact Nat.le_of_not_le h
  · exact Nat.le_refl _

theorem clearRequest_requestsOk {s : State} (h : s.requestsOk) (c : Fin 8) (k : ValveKind) :
    (s.clearRequest c k).requestsOk := by
  have h1 := requestsOk_setValve (c := c) (k := k)
    (x := { s.valve c k with pending := none }) h nofun
  unfold State.clearRequest State.restStamp
  split
  · exact h1
  · exact requestsOk_of rfl h1

end Sys2Proof.Machine
end

