-- ==== Sys2Proof/Laws/Lots.lean ====
section
/-! SUPPORT. A test of the invariant over flights, lots and gates (`State.LotsOk`) that can be
evaluated. -/

namespace Sys2Proof.Machine

/-! ### A test of `LotsOk` -/

/-- Whether a flight at an offset agrees with the lot it names. -/
def State.flightOk (s : State) (d : Nat) : Bool :=
  match s.trunk.flight d with
  | .reserved x =>
    match s.intake.lots[x] with
    | some l => (l.state == .reserved && decide (s.outletOffset l.source.outlet < d)) ||
        (l.state == .loading && decide (s.outletOffset l.source.outlet ≤ d))
    | none => false
  | _ => true

/-- Whether a lot agrees with its gate and its cell. -/
def State.lotOk (s : State) (i : Fin 32) : Bool :=
  match s.intake.lots[i] with
  | none => true
  | some l => !l.state.isOpen ||
      ((l.state == .loading) == (s.outlets[l.source.outlet].gate == .isOpen) &&
        (l.state != .reserved || s.outlets[l.source.outlet].gate != .fault) &&
        (match l.source with
          | .cell c => s.cells[c].state == .running || s.cells[c].state == .paused
          | .flush => true) &&
        (List.finRange 32).all fun j =>
          match s.intake.lots[j] with
          | none => true
          | some m => !m.state.isOpen || l.source != m.source || i == j)

/-- Whether a gate agrees with the lot table and its timer. -/
def State.gateOk (s : State) (o : Fin 9) : Bool :=
  (s.outlets[o].gate != .isOpen || (List.finRange 32).any fun i =>
    match s.intake.lots[i] with
    | none => false
    | some l => l.state == .loading && l.source.outlet == o) &&
  (!s.outlets[o].timer.isRunning || s.outlets[o].gate == .closing) &&
  (s.part != .config || (s.outlets[o].gate == .closed && s.outlets[o].timer == .stopped))

/-- `LotsOk` as a test. -/
def State.lotsChecked (s : State) : Bool :=
  (List.range s.trunk.config.carry).all s.flightOk && (List.finRange 32).all s.lotOk &&
    (List.finRange 9).all s.gateOk &&
    (List.finRange 8).all fun c => s.cells[c].state == .disabled || s.cells[c].config.enabled

theorem lotsOk_of_checked {s : State} (h : s.lotsChecked = true) : s.LotsOk := by
  simp only [State.lotsChecked, Bool.and_eq_true, List.all_eq_true, List.mem_range,
    List.mem_finRange, true_implies] at h
  obtain ⟨⟨⟨hf, hl⟩, hg⟩, he⟩ := h
  have lot : ∀ (i : Fin 32) (l : Lot), s.intake.lots[i] = some l → l.state.isOpen = true →
      ((l.state == .loading) = (s.outlets[l.source.outlet].gate == .isOpen) ∧
        (l.state ≠ .reserved ∨ s.outlets[l.source.outlet].gate ≠ .fault)) ∧
      (∀ c, l.source = .cell c → s.cells[c].state = .running ∨ s.cells[c].state = .paused) ∧
      ∀ (j : Fin 32) (m : Lot), s.intake.lots[j] = some m → m.state.isOpen = true →
        l.source = m.source → i = j := by
    intro i l hi ho
    have h := hl i
    simp only [State.lotOk, hi, ho, Bool.not_true, Bool.false_or, Bool.and_eq_true, beq_iff_eq,
      Bool.or_eq_true, bne_iff_ne, List.all_eq_true, List.mem_finRange, true_implies] at h
    obtain ⟨⟨⟨h1, h2⟩, h3⟩, h4⟩ := h
    refine ⟨⟨h1, h2⟩, fun c hc => ?_, fun j m hj hm hs => ?_⟩
    · simpa [hc] using h3
    · have h := h4 j
      simp only [hj, hm, Bool.not_true, Bool.false_or, Bool.or_eq_true, bne_iff_ne, beq_iff_eq] at h
      exact h.resolve_left fun hn => hn hs
  refine
    { flights := fun d x hd hx => ?_
      one := fun i j l m hi hj ol om hs => (lot i l hi ol).2.2 j m hj om hs
      gates := fun i l hi ol => ?_
      served := fun o ho => ?_
      timers := fun o ho => ?_
      jobs := fun i l c hi ol hc => (lot i l hi ol).2.1 c hc
      enabled := fun c hc => ?_
      config := fun hp o => ?_ }
  · have h := hf d hd
    simp only [State.flightOk, hx] at h
    split at h
    · rename_i l hl
      refine ⟨l, hl, ?_⟩
      simpa using h
    · exact absurd h (by simp)
  · obtain ⟨h1, h2⟩ := (lot i l hi ol).1
    refine ⟨?_, fun hr => h2.resolve_left fun h => h hr⟩
    rw [← beq_iff_eq, h1, beq_iff_eq]
  · have h := hg o
    simp only [State.gateOk, ho, bne_self_eq_false, Bool.false_or, Bool.and_eq_true,
      List.any_eq_true, List.mem_finRange, true_and] at h
    obtain ⟨⟨⟨i, hi⟩, -⟩, -⟩ := h
    split at hi
    · exact absurd hi (by simp)
    · rename_i l hl
      simp only [Bool.and_eq_true, beq_iff_eq] at hi
      exact ⟨i, l, hl, hi⟩
  · have h := hg o
    simp only [State.gateOk, ho, Bool.not_true, Bool.false_or, Bool.and_eq_true, beq_iff_eq] at h
    exact h.1.2
  · have h := he c
    simp only [Bool.or_eq_true, beq_iff_eq] at h
    exact h.resolve_left hc
  · have h := hg o
    simp only [State.gateOk, hp, bne_self_eq_false, Bool.false_or, Bool.and_eq_true,
      beq_iff_eq] at h
    exact h.2

end Sys2Proof.Machine
end

