-- ==== Sys2Proof/Laws/Layout.lean ====
section
/-! SUPPORT. What `State.LotsOk` reads of a state, as a record of functions, and the changes of it that
keep the invariant: a lot created, reserved, loading, ended, set back; a gate closed, found closed. -/

namespace Sys2Proof.Machine

/-! ### Outlets and sources -/

@[simp] theorem outletSource_outlet (src : Source) : outletSource src.outlet = src := by
  cases src with
  | cell c => simp [Source.outlet, outletSource]
  | flush => simp [Source.outlet, outletSource]

@[simp] theorem outlet_outletSource (o : Fin 9) : (outletSource o).outlet = o := by
  unfold outletSource
  split
  · rfl
  · have := o.2
    ext
    show 8 = o.1
    omega

theorem source_of_outlet {a b : Source} (h : a.outlet = b.outlet) : a = b := by
  rw [← outletSource_outlet a, h, outletSource_outlet]

/-! ### The layout -/

/-- What the invariant of flights, lots and gates reads; the flights beyond the carrying run count as
EMPTY. -/
structure Layout where
  part : PartState
  flight : Nat → Flight
  lot : Fin 32 → Option (Source × LotState)
  gate : Fin 9 → GateState
  timer : Fin 9 → Timer
  offset : Fin 9 → Nat
  cell : Fin 8 → CellState
  enabled : Fin 8 → Bool

/-- The layout of a state. -/
def State.layout (s : State) : Layout where
  part := s.part
  flight := fun d => if d < s.trunk.config.carry then s.trunk.flight d else .empty
  lot := fun i => (s.intake.lots[i]).map fun l => (l.source, l.state)
  gate := fun o => s.outlets[o].gate
  timer := fun o => s.outlets[o].timer
  offset := s.outletOffset
  cell := fun c => s.cells[c].state
  enabled := fun c => s.cells[c].config.enabled

/-- `State.LotsOk` of a layout; in the middle of a pitch the flights of an outlet's lots may stand one
offset lower than the outlet's gate has seen them, where `late` says 1. -/
structure Layout.Ok (L : Layout) (late : Fin 9 → Nat) : Prop where
  flights : ∀ d x, L.flight d = .reserved x → ∃ src st, L.lot x = some (src, st) ∧
    ((st = .reserved ∧ L.offset src.outlet < d + late src.outlet) ∨
      (st = .loading ∧ L.offset src.outlet ≤ d + late src.outlet))
  one : ∀ i j src st st', L.lot i = some (src, st) → L.lot j = some (src, st') →
    st.isOpen = true → st'.isOpen = true → i = j
  gates : ∀ i src st, L.lot i = some (src, st) → st.isOpen = true →
    (st = .loading ↔ L.gate src.outlet = .isOpen) ∧
    (st = .reserved → L.gate src.outlet ≠ .fault)
  served : ∀ o, L.gate o = .isOpen → ∃ i, L.lot i = some (outletSource o, .loading)
  timers : ∀ o, (L.timer o).isRunning = true → L.gate o = .closing
  jobs : ∀ i c st, L.lot i = some (.cell c, st) → st.isOpen = true →
    L.cell c = .running ∨ L.cell c = .paused
  enabled : ∀ c, L.cell c ≠ .disabled → L.enabled c = true
  config : L.part = .config → ∀ o, L.gate o = .closed ∧ L.timer o = .stopped

/-- No outlet is late. -/
def onTime : Fin 9 → Nat := fun _ => 0

theorem layout_lot {s : State} {i : Fin 32} {l : Lot} (h : s.intake.lots[i] = some l) :
    s.layout.lot i = some (l.source, l.state) := by
  simp only [State.layout, h, Option.map_some]

theorem lot_layout {s : State} {i : Fin 32} {src : Source} {st : LotState}
    (h : s.layout.lot i = some (src, st)) :
    ∃ l, s.intake.lots[i] = some l ∧ l.source = src ∧ l.state = st := by
  simp only [State.layout, Option.map_eq_some_iff, Prod.mk.injEq] at h
  exact h

theorem layout_flight {s : State} {d : Nat} (h : d < s.trunk.config.carry) :
    s.layout.flight d = s.trunk.flight d := if_pos h

theorem flight_layout {s : State} {d : Nat} {x : Fin 32} (h : s.layout.flight d = .reserved x) :
    d < s.trunk.config.carry ∧ s.trunk.flight d = .reserved x := by
  simp only [State.layout] at h
  split at h
  · exact ⟨‹_›, h⟩
  · exact absurd h (by simp)

/-- `LotsOk` is a property of the layout. -/
theorem lotsOk_iff (s : State) : s.LotsOk ↔ s.layout.Ok onTime := by
  constructor
  · intro h
    refine
      { flights := fun d x hd => ?_
        one := fun i j src st st' hi hj oi oj => ?_
        gates := fun i src st hi oi => ?_
        served := fun o ho => ?_
        timers := h.timers
        jobs := fun i c st hi oi => ?_
        enabled := h.enabled
        config := h.config }
    · obtain ⟨hc, hf⟩ := flight_layout hd
      obtain ⟨l, hl, hs⟩ := h.flights d x hc hf
      exact ⟨l.source, l.state, layout_lot hl, hs⟩
    · obtain ⟨l, hl, rfl, rfl⟩ := lot_layout hi
      obtain ⟨m, hm, hms, rfl⟩ := lot_layout hj
      exact h.one i j l m hl hm oi oj hms.symm
    · obtain ⟨l, hl, rfl, rfl⟩ := lot_layout hi
      exact h.gates i l hl oi
    · obtain ⟨i, l, hl, hs, ho'⟩ := h.served o ho
      refine ⟨i, ?_⟩
      rw [layout_lot hl, hs, ← ho', outletSource_outlet]
    · obtain ⟨l, hl, hs, rfl⟩ := lot_layout hi
      exact h.jobs i l c hl oi hs
  · intro h
    refine
      { flights := fun d x hd hx => ?_
        one := fun i j l m hi hj oi oj hs => ?_
        gates := fun i l hi oi => h.gates i _ _ (layout_lot hi) oi
        served := fun o ho => ?_
        timers := h.timers
        jobs := fun i l c hi oi hs => h.jobs i c l.state (by rw [layout_lot hi, hs]) oi
        enabled := h.enabled
        config := h.config }
    · obtain ⟨src, st, hl, hs⟩ := h.flights d x ((layout_flight hd).trans hx)
      obtain ⟨l, hm, rfl, rfl⟩ := lot_layout hl
      exact ⟨l, hm, hs⟩
    · exact h.one i j l.source l.state m.state (layout_lot hi) (by rw [layout_lot hj, hs]) oi oj
    · obtain ⟨i, hi⟩ := h.served o ho
      obtain ⟨l, hl, hs, hst⟩ := lot_layout hi
      exact ⟨i, l, hl, hst, by rw [hs, outlet_outletSource]⟩

/-! ### Changes that keep the invariant -/

section
variable {L : Layout} {late : Fin 9 → Nat}

/-- Flights that are RESERVED for no lot they were not RESERVED for. -/
theorem Layout.Ok.drop (h : L.Ok late) {f : Nat → Flight}
    (hf : ∀ d x, f d = .reserved x → L.flight d = .reserved x) : { L with flight := f }.Ok late :=
  { h with flights := fun d x hd => h.flights d x (hf d x hd) }

/-- A lot created for a source that has none open. -/
theorem Layout.Ok.create (h : L.Ok late) {id : Fin 32} {src : Source} (hn : L.lot id = none)
    (hone : ∀ i st, L.lot i = some (src, st) → st.isOpen = false)
    (hjob : ∀ c, src = .cell c → L.cell c = .running ∨ L.cell c = .paused) :
    { L with lot := Function.update L.lot id (some (src, .pending)) }.Ok late := by
  refine
    { h with
      flights := fun d x hd => ?_
      one := fun i j src' st st' hi hj oi oj => ?_
      gates := fun i src' st hi oi => ?_
      served := fun o ho => ?_
      jobs := fun i c st hi oi => ?_ }
  · obtain ⟨s, st, hx, hs⟩ := h.flights d x hd
    refine ⟨s, st, ?_, hs⟩
    show Function.update L.lot id _ x = _
    rw [Function.update_of_ne (by rintro rfl; simp [hn] at hx), hx]
  · simp only [Function.update_apply] at hi hj
    split at hi <;> split at hj
    · rename_i e e'; rw [e, e']
    · obtain ⟨rfl, rfl⟩ : src = src' ∧ _ = st := by simpa using hi
      rw [hone j st' hj] at oj; exact absurd oj (by simp)
    · obtain ⟨rfl, rfl⟩ : src = src' ∧ _ = st' := by simpa using hj
      rw [hone i st hi] at oi; exact absurd oi (by simp)
    · exact h.one i j src' st st' hi hj oi oj
  · simp only [Function.update_apply] at hi
    split at hi
    · obtain ⟨rfl, rfl⟩ : src = src' ∧ _ = st := by simpa using hi
      refine ⟨⟨nofun, fun hg => ?_⟩, nofun⟩
      obtain ⟨j, hj⟩ := h.served _ hg
      rw [outletSource_outlet] at hj
      exact absurd (hone j _ hj) (by decide)
    · exact h.gates i src' st hi oi
  · obtain ⟨i, hi⟩ := h.served o ho
    refine ⟨i, ?_⟩
    show Function.update L.lot id _ i = _
    rw [Function.update_of_ne (by rintro rfl; simp [hn] at hi), hi]
  · simp only [Function.update_apply] at hi
    split at hi
    · exact hjob c (by simpa using congrArg Prod.fst (Option.some.inj hi))
    · exact h.jobs i c st hi oi

/-- A lot that is not LOADING ends, or leaves the open states: its record freed or closed. -/
theorem Layout.Ok.finish (h : L.Ok late) {id : Fin 32} {src : Source} {st : LotState}
    {x : Option (Source × LotState)} (hl : L.lot id = some (src, st)) (hst : st ≠ .loading)
    (hfree : ∀ d, L.flight d ≠ .reserved id)
    (hx : ∀ src' st', x = some (src', st') → st'.isOpen = false) :
    { L with lot := Function.update L.lot id x }.Ok late := by
  refine
    { h with
      flights := fun d y hd => ?_
      one := fun i j src' st₁ st₂ hi hj oi oj => ?_
      gates := fun i src' st' hi oi => ?_
      served := fun o ho => ?_
      jobs := fun i c st' hi oi => ?_ }
  · obtain ⟨s, st', hy, hs⟩ := h.flights d y hd
    refine ⟨s, st', ?_, hs⟩
    show Function.update L.lot id _ y = _
    rw [Function.update_of_ne (by rintro rfl; exact hfree d hd), hy]
  · simp only [Function.update_apply] at hi hj
    split at hi
    · rw [hx _ _ hi] at oi; exact absurd oi (by simp)
    · split at hj
      · rw [hx _ _ hj] at oj; exact absurd oj (by simp)
      · exact h.one i j src' st₁ st₂ hi hj oi oj
  · simp only [Function.update_apply] at hi
    split at hi
    · rw [hx _ _ hi] at oi; exact absurd oi (by simp)
    · exact h.gates i src' st' hi oi
  · obtain ⟨i, hi⟩ := h.served o ho
    refine ⟨i, ?_⟩
    show Function.update L.lot id _ i = _
    rw [Function.update_of_ne ?_, hi]
    rintro rfl
    rw [hl] at hi
    exact hst (by simpa using congrArg Prod.snd (Option.some.inj hi))
  · simp only [Function.update_apply] at hi
    split at hi
    · rw [hx _ _ hi] at oi; exact absurd oi (by simp)
    · exact h.jobs i c st' hi oi

/-- The lots of one source, open: the record of the one that is. -/
theorem Layout.Ok.unique (h : L.Ok late) {i j : Fin 32} {src : Source} {st st' : LotState}
    (hi : L.lot i = some (src, st)) (hj : L.lot j = some (src, st')) (oi : st.isOpen = true)
    (oj : st'.isOpen = true) : i = j ∧ st = st' := by
  have e := h.one i j src st st' hi hj oi oj
  subst e
  rw [hi] at hj
  exact ⟨rfl, by simpa using congrArg Prod.snd (Option.some.inj hj)⟩

/-- The gate of an open lot that is not LOADING is not OPEN. -/
theorem Layout.Ok.notOpen (h : L.Ok late) {id : Fin 32} {src : Source} {st : LotState}
    (hl : L.lot id = some (src, st)) (ho : st.isOpen = true) (hst : st ≠ .loading) :
    L.gate src.outlet ≠ .isOpen := fun hg => hst (((h.gates id src st hl ho).1).2 hg)

/-- A PENDING lot reserved above its outlet, its gate not in FAULT. -/
theorem Layout.Ok.reserve (h : L.Ok late) {id : Fin 32} {src : Source} {f : Nat → Flight}
    (hl : L.lot id = some (src, .pending)) (hg : L.gate src.outlet ≠ .fault)
    (hf : ∀ d x, f d = .reserved x → L.flight d = .reserved x ∨ (x = id ∧ L.offset src.outlet < d)) :
    { L with
      flight := f
      lot := Function.update L.lot id (some (src, .reserved)) }.Ok late := by
  have old : ∀ d, L.flight d ≠ .reserved id := fun d hd => by
    obtain ⟨s, st, hx, hs⟩ := h.flights d id hd
    obtain ⟨rfl, rfl⟩ : src = s ∧ _ = st := by simpa [hl] using hx
    simp at hs
  refine
    { h with
      flights := fun d x hd => ?_
      one := fun i j src' st₁ st₂ hi hj oi oj => ?_
      gates := fun i src' st' hi oi => ?_
      served := fun o ho => ?_
      jobs := fun i c st' hi oi => ?_ }
  · rcases hf d x hd with hd' | ⟨rfl, hd'⟩
    · obtain ⟨s, st, hx, hs⟩ := h.flights d x hd'
      refine ⟨s, st, ?_, hs⟩
      show Function.update L.lot id _ x = _
      rw [Function.update_of_ne (by rintro rfl; exact old d hd'), hx]
    · exact ⟨src, .reserved, Function.update_self .., .inl ⟨rfl, by show L.offset _ < _; omega⟩⟩
  · simp only [Function.update_apply] at hi hj
    split at hi <;> split at hj
    · rename_i e e'; rw [e, e']
    · obtain ⟨rfl, rfl⟩ : src = src' ∧ _ = st₁ := by simpa using hi
      rename_i e _
      rw [e]
      exact (h.unique hl hj rfl oj).1
    · obtain ⟨rfl, rfl⟩ : src = src' ∧ _ = st₂ := by simpa using hj
      rename_i _ e
      rw [e]
      exact (h.unique hi hl oi rfl).1
    · exact h.one i j src' st₁ st₂ hi hj oi oj
  · simp only [Function.update_apply] at hi
    split at hi
    · obtain ⟨rfl, rfl⟩ : src = src' ∧ _ = st' := by simpa using hi
      exact ⟨⟨nofun, fun hg => absurd hg (h.notOpen hl rfl nofun)⟩, fun _ => hg⟩
    · exact h.gates i src' st' hi oi
  · obtain ⟨i, hi⟩ := h.served o ho
    refine ⟨i, ?_⟩
    show Function.update L.lot id _ i = _
    rw [Function.update_of_ne (by rintro rfl; rw [hl] at hi; simp at hi), hi]
  · simp only [Function.update_apply] at hi
    split at hi
    · obtain ⟨rfl, rfl⟩ : src = .cell c ∧ _ = st' := by simpa using hi
      exact h.jobs id c _ hl rfl
    · exact h.jobs i c st' hi oi

/-- A RESERVED lot goes back to PENDING, its flights given up. -/
theorem Layout.Ok.setBack (h : L.Ok late) {id : Fin 32} {src : Source} {f : Nat → Flight}
    (hl : L.lot id = some (src, .reserved))
    (hf : ∀ d x, f d = .reserved x → L.flight d = .reserved x ∧ x ≠ id) :
    { L with
      flight := f
      lot := Function.update L.lot id (some (src, .pending)) }.Ok late := by
  refine
    { h with
      flights := fun d x hd => ?_
      one := fun i j src' st₁ st₂ hi hj oi oj => ?_
      gates := fun i src' st' hi oi => ?_
      served := fun o ho => ?_
      jobs := fun i c st' hi oi => ?_ }
  · obtain ⟨hd, hn⟩ := hf d x hd
    obtain ⟨s, st, hx, hs⟩ := h.flights d x hd
    refine ⟨s, st, ?_, hs⟩
    show Function.update L.lot id _ x = _
    rw [Function.update_of_ne hn, hx]
  · simp only [Function.update_apply] at hi hj
    split at hi <;> split at hj
    · rename_i e e'; rw [e, e']
    · obtain ⟨rfl, rfl⟩ : src = src' ∧ _ = st₁ := by simpa using hi
      rename_i e _
      rw [e]
      exact (h.unique hl hj rfl oj).1
    · obtain ⟨rfl, rfl⟩ : src = src' ∧ _ = st₂ := by simpa using hj
      rename_i _ e
      rw [e]
      exact (h.unique hi hl oi rfl).1
    · exact h.one i j src' st₁ st₂ hi hj oi oj
  · simp only [Function.update_apply] at hi
    split at hi
    · obtain ⟨rfl, rfl⟩ : src = src' ∧ _ = st' := by simpa using hi
      exact ⟨⟨nofun, fun hg => absurd hg (h.notOpen hl rfl nofun)⟩, nofun⟩
    · exact h.gates i src' st' hi oi
  · obtain ⟨i, hi⟩ := h.served o ho
    refine ⟨i, ?_⟩
    show Function.update L.lot id _ i = _
    rw [Function.update_of_ne (by rintro rfl; rw [hl] at hi; simp at hi), hi]
  · simp only [Function.update_apply] at hi
    split at hi
    · obtain ⟨rfl, rfl⟩ : src = .cell c ∧ _ = st' := by simpa using hi
      exact h.jobs id c _ hl rfl
    · exact h.jobs i c st' hi oi

/-- A gate opens for its RESERVED lot; its outlet is late no longer. -/
theorem Layout.Ok.openFor (h : L.Ok late) {id : Fin 32} {src : Source}
    (hl : L.lot id = some (src, .reserved))
    (hg : L.gate src.outlet = .closed ∨ L.gate src.outlet = .closing) (hp : L.part ≠ .config)
    (hlate : late src.outlet ≤ 1) :
    { L with
      lot := Function.update L.lot id (some (src, .loading))
      gate := Function.update L.gate src.outlet .isOpen
      timer := Function.update L.timer src.outlet .stopped }.Ok
        (Function.update late src.outlet 0) := by
  have other : ∀ {i : Fin 32} {s : Source} {st : LotState}, i ≠ id → L.lot i = some (s, st) →
      st.isOpen = true → s.outlet ≠ src.outlet := fun hi hx ho e => by
    rw [source_of_outlet e] at hx
    exact hi (h.unique hx hl ho rfl).1
  refine
    { h with
      flights := fun d x hd => ?_
      one := fun i j src' st₁ st₂ hi hj oi oj => ?_
      gates := fun i src' st' hi oi => ?_
      served := fun o ho => ?_
      timers := fun o ho => ?_
      jobs := fun i c st' hi oi => ?_
      config := fun hc => absurd hc hp }
  · obtain ⟨s, st, hx, hs⟩ := h.flights d x hd
    by_cases e : x = id
    · subst e
      obtain ⟨rfl, rfl⟩ : src = s ∧ _ = st := by simpa [hl] using hx
      refine ⟨src, .loading, Function.update_self .., .inr ⟨rfl, ?_⟩⟩
      show L.offset _ ≤ _
      rw [Function.update_self]
      rcases hs with ⟨-, hs⟩ | ⟨hs, -⟩
      · omega
      · exact absurd hs (by decide)
    · have ho : st.isOpen = true := by rcases hs with ⟨rfl, -⟩ | ⟨rfl, -⟩ <;> rfl
      refine ⟨s, st, ?_, ?_⟩
      · show Function.update L.lot id _ x = _
        rw [Function.update_of_ne e, hx]
      · rw [Function.update_of_ne (other e hx ho)]
        exact hs
  · simp only [Function.update_apply] at hi hj
    split at hi <;> split at hj
    · rename_i e e'; rw [e, e']
    · obtain ⟨rfl, rfl⟩ : src = src' ∧ _ = st₁ := by simpa using hi
      rename_i e _
      rw [e]
      exact (h.unique hl hj rfl oj).1
    · obtain ⟨rfl, rfl⟩ : src = src' ∧ _ = st₂ := by simpa using hj
      rename_i _ e
      rw [e]
      exact (h.unique hi hl oi rfl).1
    · exact h.one i j src' st₁ st₂ hi hj oi oj
  · simp only [Function.update_apply] at hi
    split at hi
    · obtain ⟨rfl, rfl⟩ : src = src' ∧ _ = st' := by simpa using hi
      exact ⟨⟨fun _ => Function.update_self .., fun _ => rfl⟩, nofun⟩
    · rename_i e
      have hne := other e hi oi
      simp only [Function.update_of_ne hne]
      exact h.gates i src' st' hi oi
  · by_cases e : o = src.outlet
    · subst e
      exact ⟨id, by simp⟩
    · have ho : L.gate o = .isOpen := by simpa [Function.update_of_ne e] using ho
      obtain ⟨i, hi⟩ := h.served o ho
      refine ⟨i, ?_⟩
      show Function.update L.lot id _ i = _
      rw [Function.update_of_ne (by rintro rfl; rw [hl] at hi; simp at hi), hi]
  · by_cases e : o = src.outlet
    · subst e
      simp [Timer.isRunning] at ho
    · simp only [Function.update_of_ne e] at ho ⊢
      exact h.timers o ho
  · simp only [Function.update_apply] at hi
    split at hi
    · obtain ⟨rfl, rfl⟩ : src = .cell c ∧ _ = st' := by simpa using hi
      exact h.jobs id c _ hl rfl
    · exact h.jobs i c st' hi oi

/-- The gate of a LOADING lot with no RESERVED flight left is commanded closed, and the lot leaves the
open states. -/
theorem Layout.Ok.shut (h : L.Ok late) {id : Fin 32} {src : Source} {g : GateState} {r : Timer}
    {x : Option (Source × LotState)} (hl : L.lot id = some (src, .loading))
    (hfree : ∀ d, L.flight d ≠ .reserved id)
    (hx : ∀ src' st', x = some (src', st') → st'.isOpen = false)
    (hg : (g = .closed ∧ r = .stopped) ∨ g = .closing) :
    { L with
      lot := Function.update L.lot id x
      gate := Function.update L.gate src.outlet g
      timer := Function.update L.timer src.outlet r }.Ok late := by
  have hopen := ((h.gates id src _ hl rfl).1).1 rfl
  have hp : L.part ≠ .config := fun hp => by
    rw [(h.config hp _).1] at hopen
    exact absurd hopen (by decide)
  have other : ∀ {i : Fin 32} {s : Source} {st : LotState}, i ≠ id → L.lot i = some (s, st) →
      st.isOpen = true → s.outlet ≠ src.outlet := fun hi hx ho e => by
    rw [source_of_outlet e] at hx
    exact hi (h.unique hx hl ho rfl).1
  refine
    { h with
      flights := fun d y hd => ?_
      one := fun i j src' st₁ st₂ hi hj oi oj => ?_
      gates := fun i src' st' hi oi => ?_
      served := fun o ho => ?_
      timers := fun o ho => ?_
      jobs := fun i c st' hi oi => ?_
      config := fun hc => absurd hc hp }
  · obtain ⟨s, st', hy, hs⟩ := h.flights d y hd
    refine ⟨s, st', ?_, hs⟩
    show Function.update L.lot id _ y = _
    rw [Function.update_of_ne (by rintro rfl; exact hfree d hd), hy]
  · simp only [Function.update_apply] at hi hj
    split at hi
    · rw [hx _ _ hi] at oi; exact absurd oi (by simp)
    · split at hj
      · rw [hx _ _ hj] at oj; exact absurd oj (by simp)
      · exact h.one i j src' st₁ st₂ hi hj oi oj
  · simp only [Function.update_apply] at hi
    split at hi
    · rw [hx _ _ hi] at oi; exact absurd oi (by simp)
    · rename_i e
      have hne := other e hi oi
      simp only [Function.update_of_ne hne]
      exact h.gates i src' st' hi oi
  · by_cases e : o = src.outlet
    · subst e
      simp only [Function.update_self] at ho
      rcases hg with ⟨rfl, -⟩ | rfl <;> exact absurd ho (by decide)
    · have ho : L.gate o = .isOpen := by simpa [Function.update_of_ne e] using ho
      obtain ⟨i, hi⟩ := h.served o ho
      refine ⟨i, ?_⟩
      show Function.update L.lot id _ i = _
      rw [Function.update_of_ne ?_, hi]
      rintro rfl
      rw [hl] at hi
      have : src = outletSource o := by simpa using congrArg Prod.fst (Option.some.inj hi)
      exact e (by rw [this, outlet_outletSource])
  · by_cases e : o = src.outlet
    · subst e
      simp only [Function.update_self] at ho ⊢
      rcases hg with ⟨-, rfl⟩ | hg
      · exact absurd ho (by simp [Timer.isRunning])
      · exact hg
    · simp only [Function.update_of_ne e] at ho ⊢
      exact h.timers o ho
  · simp only [Function.update_apply] at hi
    split at hi
    · rw [hx _ _ hi] at oi; exact absurd oi (by simp)
    · exact h.jobs i c st' hi oi

/-- A gate that is not OPEN comes to another state than OPEN, to CLOSED in CONFIG. -/
theorem Layout.Ok.gateTo (h : L.Ok late) {o : Fin 9} {g : GateState} {r : Timer}
    (ho : L.gate o ≠ .isOpen) (hg : g ≠ .isOpen) (hr : r.isRunning = true → g = .closing)
    (hfault : g = .fault → ∀ i, L.lot i ≠ some (outletSource o, .reserved))
    (hc : L.part = .config → g = .closed ∧ r = .stopped) :
    { L with
      gate := Function.update L.gate o g
      timer := Function.update L.timer o r }.Ok late := by
  refine
    { h with
      gates := fun i src st hi oi => ?_
      served := fun o' ho' => ?_
      timers := fun o' ho' => ?_
      config := fun hp o' => ?_ }
  · obtain ⟨h1, h2⟩ := h.gates i src st hi oi
    by_cases e : src.outlet = o
    · subst e
      simp only [Function.update_self]
      refine ⟨⟨fun hs => absurd (h1.1 hs) ho, fun hs => absurd hs hg⟩, fun hs hf => ?_⟩
      exact hfault hf i (by rw [outletSource_outlet, hi, hs])
    · simp only [Function.update_of_ne e]
      exact ⟨h1, h2⟩
  · by_cases e : o' = o
    · subst e
      simp only [Function.update_self] at ho'
      exact absurd ho' hg
    · exact h.served o' (by simpa [Function.update_of_ne e] using ho')
  · by_cases e : o' = o
    · subst e
      simp only [Function.update_self] at ho' ⊢
      exact hr ho'
    · simp only [Function.update_of_ne e] at ho' ⊢
      exact h.timers o' ho'
  · by_cases e : o' = o
    · subst e
      simp only [Function.update_self]
      exact hc hp
    · simp only [Function.update_of_ne e]
      exact h.config hp o'

/-- Cells change: one that is left with no job has no open lot, one that is not DISABLED is enabled;
an outlet moves only where no lot of it holds flights. -/
theorem Layout.Ok.cells (h : L.Ok late) {cell : Fin 8 → CellState} {enabled : Fin 8 → Bool}
    {offset : Fin 9 → Nat} (he : ∀ c, cell c ≠ .disabled → enabled c = true)
    (hj : ∀ c, (∃ i st, L.lot i = some (.cell c, st) ∧ st.isOpen = true) →
      cell c = .running ∨ cell c = .paused)
    (ho : ∀ o, offset o ≠ L.offset o → ∀ i st, L.lot i = some (outletSource o, st) →
      st ≠ .reserved ∧ st ≠ .loading) :
    { L with cell := cell, enabled := enabled, offset := offset }.Ok late := by
  refine
    { h with
      flights := fun d x hd => ?_
      jobs := fun i c st hi oi => hj c ⟨i, st, hi, oi⟩
      enabled := he }
  obtain ⟨src, st, hx, hs⟩ := h.flights d x hd
  refine ⟨src, st, hx, ?_⟩
  have : offset src.outlet = L.offset src.outlet := by
    by_contra hn
    have := ho _ hn x st (by rw [outletSource_outlet, hx])
    rcases hs with ⟨rfl, -⟩ | ⟨rfl, -⟩ <;> simp at this
  show (_ ∧ offset _ < _) ∨ (_ ∧ offset _ ≤ _)
  rw [this]
  exact hs

/-- A greater lateness asks less. -/
theorem Layout.Ok.mono (h : L.Ok late) {late' : Fin 9 → Nat} (hl : ∀ o, late o ≤ late' o) :
    L.Ok late' := by
  refine { h with flights := fun d x hd => ?_ }
  obtain ⟨src, st, hx, hs⟩ := h.flights d x hd
  have := hl src.outlet
  refine ⟨src, st, hx, ?_⟩
  rcases hs with ⟨hst, hs⟩ | ⟨hst, hs⟩
  · exact .inl ⟨hst, by omega⟩
  · exact .inr ⟨hst, by omega⟩

/-- An outlet is late no longer where its lots' flights all stand as they should. -/
theorem Layout.Ok.seen (h : L.Ok late) {o : Fin 9}
    (ho : ∀ d x st, L.flight d = .reserved x → L.lot x = some (outletSource o, st) →
      (st = .reserved → L.offset o < d) ∧ (st = .loading → L.offset o ≤ d)) :
    L.Ok (Function.update late o 0) := by
  refine { h with flights := fun d x hd => ?_ }
  obtain ⟨src, st, hx, hs⟩ := h.flights d x hd
  refine ⟨src, st, hx, ?_⟩
  by_cases e : src.outlet = o
  · subst e
    rw [Function.update_self]
    have := ho d x st hd (by rw [outletSource_outlet, hx])
    rcases hs with ⟨hst, -⟩ | ⟨hst, -⟩
    · exact .inl ⟨hst, by simpa using this.1 hst⟩
    · exact .inr ⟨hst, by simpa using this.2 hst⟩
  · rw [Function.update_of_ne e]
    exact hs
end

end Sys2Proof.Machine
end

