-- ==== Sys2Proof/Laws/LotsKept.lean ====
section
/-! SUPPORT. The operations over lots, gates and flights that keep `State.LotsOk`, up to the end of an
event (`Event.settle`): each as what it does to the layout, or as a change that keeps `Layout.Ok`. -/

namespace Sys2Proof.Machine

/-! ### Updates that the layout does not see -/

section
variable (s : State)
@[simp] theorem layout_withCrusher (x : Crusher) : (s.withCrusher x).layout = s.layout := rfl
@[simp] theorem layout_withRouting (x : Routing) : (s.withRouting x).layout = s.layout := rfl
@[simp] theorem layout_withBins (x : Vector Bin 5) : (s.withBins x).layout = s.layout := rfl
@[simp] theorem layout_withSamples (x : Samples) : (s.withSamples x).layout = s.layout := rfl
@[simp] theorem layout_withFilter (x : FilterBank) : (s.withFilter x).layout = s.layout := rfl
@[simp] theorem layout_withBalance (x : Balance) : (s.withBalance x).layout = s.layout := rfl
@[simp] theorem layout_withGrants (x : Grants) : (s.withGrants x).layout = s.layout := rfl
@[simp] theorem layout_withProfiles (x : ProfileStore) : (s.withProfiles x).layout = s.layout := rfl
@[simp] theorem layout_withLinks (x : Links) : (s.withLinks x).layout = s.layout := rfl
@[simp] theorem layout_withPlant (x : Plant) : (s.withPlant x).layout = s.layout := rfl
@[simp] theorem layout_withInputs (x : Inputs) : (s.withInputs x).layout = s.layout := rfl
@[simp] theorem layout_withOutputs (x : Outputs) : (s.withOutputs x).layout = s.layout := rfl
@[simp] theorem layout_withPending (x : List Instr) : (s.withPending x).layout = s.layout := rfl
@[simp] theorem layout_withHeld (x : Option SludgeRequest) :
    (s.withIntake { s.intake with held := x }).layout = s.layout := rfl
@[simp] theorem layout_withStamp (x : Nat) :
    (s.withIntake { s.intake with stamp := x }).layout = s.layout := rfl
@[simp] theorem setHalt_layout (r : HaltReason) (b : Bool) : (s.setHalt r b).layout = s.layout := rfl
@[simp] theorem post_layout (c : Fin 8) (n : Notice) : (s.post c n).layout = s.layout := rfl
@[simp] theorem postLotRecord_layout (id : Fin 32) (l : Lot) :
    (s.postLotRecord id l).layout = s.layout := by
  unfold State.postLotRecord
  split
  · split <;> simp
  · rfl
@[simp] theorem postLot_layout (id : Fin 32) : (s.postLot id).layout = s.layout := by
  unfold State.postLot; split <;> simp
@[simp] theorem updateBin_layout (b : Fin 5) (f : Bin → Bin) :
    (s.updateBin b f).layout = s.layout := rfl
@[simp] theorem addCommitment_layout (b : Fin 5) (v : Nat) :
    (s.addCommitment b v).layout = s.layout := rfl
@[simp] theorem examineBin_layout : s.examineBin.layout = s.layout := rfl
@[simp] theorem startMove_layout : s.startMove.layout = s.layout := by
  unfold State.startMove
  split
  · split <;> rfl
  · rfl
@[simp] theorem examine_layout : s.examine.layout = s.layout := by
  unfold State.examine
  split <;> simp
@[simp] theorem loseResident_layout (id : Fin 32) : (s.loseResident id).layout = s.layout := by
  unfold State.loseResident
  simp only
  split <;> rfl
theorem loseResident_intake (id : Fin 32) : (s.loseResident id).intake = s.intake := by
  unfold State.loseResident
  simp only
  split <;> rfl
end

section
variable (e : Event)
@[simp] theorem setBinState_layout (b : Fin 5) (st : BinState) :
    (e.setBinState b st).st.layout = e.st.layout := by
  unfold Event.setBinState; split <;> simp
@[simp] theorem releaseIfClear_layout (b : Fin 5) : (e.releaseIfClear b).st.layout = e.st.layout := by
  unfold Event.releaseIfClear; split <;> simp
@[simp] theorem fullIfReached_layout (b : Fin 5) : (e.fullIfReached b).st.layout = e.st.layout := by
  unfold Event.fullIfReached; split <;> simp
@[simp] theorem removeCommitment_layout (b : Fin 5) (v : Nat) :
    (e.removeCommitment b v).st.layout = e.st.layout := by
  simp [Event.removeCommitment]
@[simp] theorem accountDelivery_layout (l : Lot) (p : Target) :
    (e.accountDelivery l p).st.layout = e.st.layout := by
  simp [Event.accountDelivery]
@[simp] theorem endCommitment_layout (l : Lot) (d : Option Target) :
    (e.endCommitment l d).st.layout = e.st.layout := by
  unfold Event.endCommitment
  split
  · simp
  · split <;> simp
@[simp] theorem sludgeFinal_layout (id : Fin 32) : (e.sludgeFinal id).st.layout = e.st.layout := by
  unfold Event.sludgeFinal
  simp only
  split
  · rfl
  · split <;> rfl
@[simp] theorem sludgeLoading_layout (id : Fin 32) :
    (e.sludgeLoading id).st.layout = e.st.layout := by
  unfold Event.sludgeLoading
  simp only
  split <;> rfl
end

/-! ### Evaluation and its handling -/

section
variable (s : State)
@[simp] theorem evaluateBalance_layout : s.evaluateBalance.layout = s.layout := rfl
@[simp] theorem commitmentUpdate_layout : s.commitmentUpdate.layout = s.layout := rfl
@[simp] theorem restStamp_layout : s.restStamp.layout = s.layout := by
  unfold State.restStamp; split <;> rfl
@[simp] theorem setValve_layout (c : Fin 8) (k : ValveKind) (x : Valve) :
    (s.setValve c k x).layout = s.layout := rfl
@[simp] theorem commandValve_layout (c : Fin 8) (k : ValveKind) (g : Nat) :
    (s.commandValve c k g).layout = s.layout := rfl
@[simp] theorem setRequest_layout (c : Fin 8) (k : ValveKind) (p : PendingRequest) :
    (s.setRequest c k p).layout = s.layout := rfl
@[simp] theorem postGrant_layout (c : Fin 8) (r : GrantReason) :
    (s.postGrant c r).layout = s.layout := rfl
@[simp] theorem clearRequest_layout (c : Fin 8) (k : ValveKind) :
    (s.clearRequest c k).layout = s.layout := by
  simp [State.clearRequest]
@[simp] theorem lowlowWithdraw_layout (c : Fin 8) : (s.lowlowWithdraw c).layout = s.layout := by
  unfold State.lowlowWithdraw
  simp only
  split <;> rfl
@[simp] theorem handleLowlow_layout : s.handleLowlow.layout = s.layout := by
  unfold State.handleLowlow
  simp only
  split
  · split <;> rfl
  · split
    · rw [foldl_keeps State.layout _ _ _ lowlowWithdraw_layout]; rfl
    · rfl
@[simp] theorem enterRestore_layout (c : Fin 8) (k : ValveKind) (n : Nat) :
    (s.enterRestore c k n).layout = s.layout := rfl
@[simp] theorem takeStep_layout (v : ShedStep) : (s.takeStep v).layout = s.layout := by
  unfold State.takeStep
  rw [layout_withGrants, postGrant_layout, enterRestore_layout, setValve_layout]
@[simp] theorem restShed_layout (st : ShedState) : (s.restShed st).layout = s.layout := rfl
@[simp] theorem seekVictim_layout : s.seekVictim.layout = s.layout := by
  unfold State.seekVictim; split <;> simp
@[simp] theorem handleShed_layout (b : Bool) : (s.handleShed b).layout = s.layout := by
  unfold State.handleShed
  simp only
  split
  · split
    · rw [seekVictim_layout]; rfl
    · rfl
  · split
    · split <;> simp
    · rfl
  · split <;> simp
@[simp] theorem setBound_layout (c : Fin 8) (k : ValveKind) (b : Bound) :
    (s.setBound c k b).layout = s.layout := by
  unfold State.setBound; split <;> simp
@[simp] theorem boundValve_layout (x : Fin 8 × ValveKind) : (s.boundValve x).layout = s.layout := by
  unfold State.boundValve; split <;> simp
@[simp] theorem serve_layout (p : Pass) (w : Waiting) : (p.serve w).st.layout = p.st.layout := by
  unfold Pass.serve Pass.serveFlood Pass.serveHp Pass.grant
  simp only
  split
  · split
    · split <;> simp
    · simp
  · split
    · split <;> simp
    · simp
@[simp] theorem postIncreases_layout (g : List Waiting) : (s.postIncreases g).layout = s.layout :=
  foldl_keeps State.layout _ _ _ fun _ _ => rfl
@[simp] theorem grantPass_layout : s.grantPass.layout = s.layout := by
  have h : ∀ (l : List Waiting) (p : Pass), (l.foldl Pass.serve p).st.layout = p.st.layout :=
    fun l p => foldl_keeps (fun p : Pass => p.st.layout) _ _ _ serve_layout
  unfold State.grantPass
  simp only
  split <;> simp [h]
@[simp] theorem handleResult_layout (b : Bool) : (s.handleResult b).layout = s.layout := by
  unfold State.handleResult
  simp only
  rw [foldl_keeps State.layout _ _ _ boundValve_layout]
  split <;> simp
@[simp] theorem evaluate_layout (b : Bool) : (s.evaluate b).layout = s.layout := by
  unfold State.evaluate; split <;> simp
end

/-! ### What the shared operations do to the layout -/

section
variable {s : State}

theorem layout_withTrunk (s : State) {t : Trunk} (h : t.config = s.trunk.config) :
    (s.withTrunk t).layout =
      { s.layout with flight := fun d => if d < s.trunk.config.carry then t.flight d else .empty } := by
  simp only [State.layout, State.withTrunk_trunk, State.withTrunk_part, State.withTrunk_intake,
    State.withTrunk_outlets, State.withTrunk_cells, h]
  congr 1
  funext o
  unfold State.outletOffset
  simp [h]

theorem layout_updateLot {id : Fin 32} {l : Lot} {f : Lot → Lot} (h : s.intake.lots[id] = some l) :
    (s.updateLot id f).layout =
      { s.layout with lot := Function.update s.layout.lot id (some ((f l).source, (f l).state)) } := by
  unfold State.updateLot
  simp only [h]
  show Layout.mk .. = Layout.mk ..
  congr 1
  funext i
  simp only [State.withIntake_intake, put_get, Function.update_apply]
  split <;> rfl

theorem layout_updateOutlet (s : State) (o : Fin 9) (f : Outlet → Outlet) :
    (s.updateOutlet o f).layout =
      { s.layout with
        gate := Function.update s.layout.gate o (f s.outlets[o]).gate
        timer := Function.update s.layout.timer o (f s.outlets[o]).timer } := by
  unfold State.updateOutlet
  show Layout.mk .. = Layout.mk ..
  congr 1 <;>
  · funext i
    simp only [State.withOutlets_outlets, change_get, Function.update_apply]
    split <;> rfl

theorem layout_freeLot (s : State) (id : Fin 32) :
    (s.freeLot id).layout = { s.layout with lot := Function.update s.layout.lot id none } := by
  have h : (s.withIntake { s.intake with lots := put s.intake.lots id none }).layout =
      { s.layout with lot := Function.update s.layout.lot id none } := by
    show Layout.mk .. = Layout.mk ..
    congr 1
    funext i
    simp only [State.withIntake_intake, put_get, Function.update_apply]
    split <;> rfl
  unfold State.freeLot
  simp only
  split
  · rw [layout_withStamp, h]
  · exact h

theorem index_offsetOf (t : Trunk) (d : Nat) : t.offsetOf (t.index d) = d % 256 := by
  unfold Trunk.offsetOf Trunk.index
  simp only
  omega

theorem flight_mapRun (t : Trunk) (f : Flight → Flight) {d : Nat} (h : d < t.config.carry) :
    (t.mapRun f).flight d = f (t.flight d) := by
  have e : (t.mapRun f).flight d = (t.mapRun f).map[t.index d] := by
    unfold Trunk.mapRun Trunk.flight Trunk.index
    rfl
  rw [e]
  unfold Trunk.mapRun Trunk.flight
  have : t.offsetOf (t.index d) < t.config.carry := by
    rw [index_offsetOf]
    exact lt_of_le_of_lt (Nat.mod_le ..) h
  simp [this]

theorem layout_dropLot (s : State) (id : Fin 32) :
    (s.withTrunk (s.trunk.dropLot id)).layout =
      { s.layout with flight := fun d => (s.layout.flight d).withoutLot id } := by
  rw [layout_withTrunk s (t := s.trunk.dropLot id) (by unfold Trunk.dropLot Trunk.mapRun; rfl)]
  show Layout.mk .. = Layout.mk ..
  congr 1
  funext d
  simp only [State.layout]
  split
  · exact flight_mapRun _ _ ‹_›
  · rfl

theorem withoutLot_reserved {f : Flight} {id x : Fin 32} (h : f.withoutLot id = .reserved x) :
    f = .reserved x ∧ x ≠ id := by
  cases f <;> simp only [Flight.withoutLot] at h
  all_goals first
    | exact absurd h (by simp)
    | (split at h
       · exact absurd h (by simp)
       · obtain rfl := Flight.reserved.inj h
         exact ⟨rfl, ‹_›⟩)
    | (split at h <;> exact absurd h (by simp))

theorem index_inj {t : Trunk} {a b : Nat} (ha : a < 256) (hb : b < 256) (h : t.index a = t.index b) :
    a = b := by
  have := congrArg Fin.val h
  simp only [Trunk.index] at this
  omega

theorem flight_setFlight (t : Trunk) (d d' : Nat) (f : Flight) :
    (t.setFlight d f).flight d' = if t.index d' = t.index d then f else t.flight d' := by
  show (put t.map (t.index d) f)[t.index d'] = _
  rw [put_get]
  rfl

/-- A flight of the run after a window is reserved. -/
theorem flight_reserve {t : Trunk} {id x : Fin 32} {w n d : Nat} (hw : w + n ≤ 256) (hd : d < 256)
    (h : (t.reserve id w n).flight d = .reserved x) :
    t.flight d = .reserved x ∨ (x = id ∧ w ≤ d) := by
  unfold Trunk.reserve at h
  have key : ∀ (l : List Nat) (t : Trunk), (∀ k ∈ l, k < n) →
      (l.foldl (fun t k => t.setFlight (w + k) (.reserved id)) t).flight d = .reserved x →
      t.flight d = .reserved x ∨ (x = id ∧ w ≤ d) := by
    intro l
    induction l with
    | nil => intro t _ h; exact .inl h
    | cons k l ih =>
      intro t hk h
      rcases ih _ (fun a ha => hk a (by simp [ha])) h with h | h
      · rw [flight_setFlight] at h
        split at h
        · rename_i e
          have hk := hk k (by simp)
          have := index_inj hd (by omega) e
          exact .inr ⟨(Flight.reserved.inj h).symm, by omega⟩
        · exact .inl h
      · exact .inr h
  exact key _ _ (fun k hk => by simpa using hk) h

theorem reserve_config (t : Trunk) (id : Fin 32) (w n : Nat) : (t.reserve id w n).config = t.config :=
  foldl_keeps Trunk.config _ _ _ fun _ _ => rfl

/-- The open lot of a source, as it stands in the table. -/
theorem openLot_spec {src : Source} {id : Fin 32} {l : Lot} (h : s.openLot src = some (id, l)) :
    s.intake.lots[id] = some l ∧ l.source = src ∧ l.state.isOpen = true := by
  unfold State.openLot at h
  obtain ⟨i, -, hi⟩ := List.exists_of_findSome?_eq_some h
  split at hi
  · split at hi
    · rename_i hs
      obtain ⟨rfl, rfl⟩ : i = id ∧ _ = l := by simpa using hi
      simp only [Bool.and_eq_true, decide_eq_true_eq] at hs
      exact ⟨‹_›, hs⟩
    · exact absurd hi (by simp)
  · exact absurd hi (by simp)

/-- A source without an open lot. -/
theorem openLot_none {src : Source} (h : s.openLot src = none) {i : Fin 32} {st : LotState}
    (hi : s.layout.lot i = some (src, st)) : st.isOpen = false := by
  obtain ⟨l, hl, hs, rfl⟩ := lot_layout hi
  unfold State.openLot at h
  rw [List.findSome?_eq_none_iff] at h
  have h := h i (List.mem_finRange i)
  simp only [hl] at h
  cases ho : l.state.isOpen
  · rfl
  · simp [hs, ho] at h

/-- The id of a new lot is free. -/
theorem nextId_free {id : Fin 32} (h : s.nextId = some id) : s.intake.lots[id] = none := by
  have mem : id ∈ s.freeIds := by
    unfold State.nextId at h
    split at h
    · obtain rfl := Option.some.inj h
      exact List.mem_of_find?_eq_some ‹_›
    · exact List.mem_of_mem_head? h
  simpa [State.freeIds] using mem

theorem layout_createLot {l : Lot} {id : Fin 32} (h : s.nextId = some id) :
    (s.createLot l).layout =
      { s.layout with lot := Function.update s.layout.lot id (some (l.source, l.state)) } := by
  unfold State.createLot
  simp only [h]
  show Layout.mk .. = Layout.mk ..
  congr 1
  funext i
  simp only [State.withIntake_intake, put_get, Function.update_apply]
  split <;> rfl
end

/-! ### Lots created and ended -/

/-- A held sludge request taken up keeps the lots in order. -/
theorem takeUpHeld_lots {e : Event} {late : Fin 9 → Nat} (h : e.st.layout.Ok late) :
    e.takeUpHeld.st.layout.Ok late := by
  unfold Event.takeUpHeld
  split
  · exact h
  · rename_i r _
    split
    · rename_i hcan
      simp only [Event.needPass_st, Event.map_st]
      unfold State.canTakeSludge at hcan
      simp only [Bool.and_eq_true, Option.isNone_iff_eq_none] at hcan
      cases hn : (e.st.withIntake { e.st.intake with held := none }).nextId with
      | none =>
        unfold State.createLot
        simp only [hn]
        exact h
      | some id =>
        rw [layout_createLot hn, layout_withHeld]
        refine h.create (src := .flush) ?_ (fun i st hi => openLot_none hcan.1 hi) (fun c hc => ?_)
        · have := nextId_free hn
          simp only [State.layout, State.withIntake_intake] at this ⊢
          simp only [this, Option.map_none]
        · exact absurd hc (by simp)
    · exact h

/-- The ending of a lot: its record freed, then a held sludge request taken up. -/
theorem endLot_lots {e : Event} {late : Fin 9 → Nat} {id : Fin 32} {l : Lot} {final : LotState}
    {d : Option Target} (hl : e.st.intake.lots[id] = some l)
    (h : { e.st.layout with lot := Function.update e.st.layout.lot id none }.Ok late) :
    (e.endLot id final d).st.layout.Ok late := by
  unfold Event.endLot
  simp only [hl, Event.needPass_st]
  apply takeUpHeld_lots
  simp only [Event.map_st]
  rw [layout_freeLot]
  have e0 : ∀ e1 : Event, (if l.source = .flush then e1.sludgeFinal id else e1).st.layout =
      e1.st.layout := fun e1 => by split <;> simp
  rw [e0, endCommitment_layout, Event.map_st, postLotRecord_layout]
  exact h

theorem endLot_none {e : Event} {id : Fin 32} {final : LotState} {d : Option Target}
    (hl : e.st.intake.lots[id] = none) : e.endLot id final d = e := by
  unfold Event.endLot
  simp only [hl]

theorem withoutLot_free {L : Layout} (id : Fin 32) (d : Nat) :
    (L.flight d).withoutLot id ≠ .reserved id := fun hd => (withoutLot_reserved hd).2 rfl

/-- A lot cancelled before it is loading. -/
theorem cancelLot_lots {e : Event} {late : Fin 9 → Nat} {id : Fin 32} (h : e.st.layout.Ok late)
    (hst : ∀ l, e.st.intake.lots[id] = some l → l.state ≠ .loading) :
    (e.cancelLot id).st.layout.Ok late := by
  have hd := h.drop (f := fun d => (e.st.layout.flight d).withoutLot id) fun d x hd =>
    (withoutLot_reserved hd).1
  have he : ((e.map fun s => s.withTrunk (s.trunk.dropLot id)).needExam).st.layout =
      { e.st.layout with flight := fun d => (e.st.layout.flight d).withoutLot id } :=
    layout_dropLot e.st id
  unfold Event.cancelLot
  cases hl : e.st.intake.lots[id] with
  | none => rw [endLot_none, he]; exacts [hd, hl]
  | some l =>
    refine endLot_lots hl ?_
    rw [he]
    exact hd.finish (layout_lot hl) (hst l hl) (withoutLot_free id) nofun

/-! ### Gates -/

/-- A close command: the gate CLOSED or CLOSING, as the closed line stands. -/
theorem layout_closeGate (s : State) (o : Fin 9) : ∃ (g : GateState) (r : Timer),
    ((g = .closed ∧ r = .stopped) ∨ g = .closing) ∧
    (s.closeGate o).layout =
      { s.layout with
        gate := Function.update s.layout.gate o g
        timer := Function.update s.layout.timer o r } := by
  unfold State.closeGate
  by_cases hg : s.inputs.gateClosed[o] = true
  · exact ⟨.closed, .stopped, .inl ⟨rfl, rfl⟩, by rw [layout_updateOutlet]; simp only [hg, if_true]⟩
  · exact ⟨.closing, .running s.outlets[o].closeTime, .inr rfl, by
      rw [layout_updateOutlet]; simp only [hg]; rfl⟩

/-- A lost lot. -/
theorem loseLot_lots {e : Event} {late : Fin 9 → Nat} {id : Fin 32} (h : e.st.layout.Ok late) :
    (e.loseLot id).st.layout.Ok late := by
  have hd := h.drop (f := fun d => (e.st.layout.flight d).withoutLot id) fun d x hd =>
    (withoutLot_reserved hd).1
  unfold Event.loseLot
  split
  · exact h
  · rename_i l hl
    simp only
    have he : ∀ s : State, ((s.loseResident id).withTrunk (s.trunk.dropLot id)).layout =
        { s.layout with flight := fun d => (s.layout.flight d).withoutLot id } := fun s => by
      have := layout_dropLot (s.loseResident id) id
      rw [loseResident_trunk, loseResident_layout] at this
      exact this
    by_cases hs : l.state = .loading
    · rw [if_pos hs]
      refine endLot_lots (l := l) ?_ ?_
      · show ((State.loseResident _ id).withTrunk _).intake.lots[id] = _
        rw [State.withTrunk_intake, loseResident_intake]
        exact hl
      · simp only [Event.needExam_st, Event.map_st, he]
        obtain ⟨g, r, hg, hc⟩ := layout_closeGate e.st l.source.outlet
        rw [hc]
        exact hd.shut (x := none) (by rw [← hs]; exact layout_lot hl) (withoutLot_free id) nofun hg
    · rw [if_neg hs]
      refine endLot_lots (l := l) ?_ ?_
      · show ((State.loseResident _ id).withTrunk _).intake.lots[id] = _
        rw [State.withTrunk_intake, loseResident_intake]
        exact hl
      · simp only [Event.needExam_st, Event.map_st, he]
        exact hd.finish (layout_lot hl) hs (withoutLot_free id) nofun

/-- A gate that is not OPEN enters FAULT: a RESERVED lot of its outlet goes back to PENDING. -/
theorem faultGate_lots {e : Event} {late : Fin 9 → Nat} {o : Fin 9} (h : e.st.layout.Ok late)
    (hp : e.st.part ≠ .config) (ho : e.st.outlets[o].gate ≠ .isOpen) :
    (e.faultGate o).st.layout.Ok late := by
  unfold Event.faultGate
  simp only
  have hf : (e.map fun s => s.updateOutlet o fun x =>
      { x with gate := .fault, timer := .stopped, spill := true }).st.layout =
      { e.st.layout with
        gate := Function.update e.st.layout.gate o .fault
        timer := Function.update e.st.layout.timer o .stopped } := layout_updateOutlet ..
  split
  · rename_i hn
    rw [hf]
    refine h.gateTo ho nofun nofun (fun _ i hi => ?_) fun hc => absurd hc hp
    exact absurd (openLot_none (s := e.st) hn hi) (by decide)
  · rename_i id l hl
    obtain ⟨hl, hsrc, hopen⟩ := openLot_spec hl
    have hlot : e.st.layout.lot id = some (outletSource o, l.state) := by
      rw [← hsrc]; exact layout_lot hl
    split
    · rename_i hs
      simp only [Event.needExam_st, Event.needPass_st, Event.map_st, postLot_layout,
        removeCommitment_layout]
      rw [layout_updateLot (l := l), layout_dropLot, layout_updateOutlet]
      swap
      · exact hl
      have hb := h.setBack (id := id) (src := outletSource o)
        (f := fun d => (e.st.layout.flight d).withoutLot id) (by rw [hlot, hs]) fun d x hd =>
          withoutLot_reserved hd
      have hg := hb.gateTo (o := o) (g := .fault) (r := .stopped) ho nofun nofun (fun _ i hi => ?_)
        fun hc => absurd hc hp
      · rw [← hsrc] at hg
        exact hg
      · simp only [Function.update_apply] at hi
        split at hi
        · simp at hi
        · rename_i hne
          exact hne (h.unique hi hlot rfl hopen).1
    · rename_i hs
      rw [hf]
      refine h.gateTo ho nofun nofun (fun _ i hi => ?_) fun hc => absurd hc hp
      exact hs (h.unique hi hlot rfl hopen).2.symm

/-- A gate opens for its RESERVED lot. -/
theorem openGate_opens {e : Event} {late : Fin 9 → Nat} {o : Fin 9} (h : e.st.layout.Ok late)
    (hp : e.st.part ≠ .config) (hlate : late o ≤ 1) :
    e.openGate o = e ∨ (e.openGate o).st.layout.Ok (Function.update late o 0) := by
  unfold Event.openGate
  simp only
  split
  · exact .inl rfl
  · rename_i id l hl
    obtain ⟨hl, hsrc, hopen⟩ := openLot_spec hl
    split
    · exact .inl rfl
    · split
      · rename_i hc
        right
        obtain ⟨hs, -, hg⟩ := hc
        have hlot : e.st.layout.lot id = some (outletSource o, .reserved) := by
          rw [← hsrc, ← hs]; exact layout_lot hl
        have hk := h.openFor hlot (by rw [outlet_outletSource]; exact hg) hp
          (by rw [outlet_outletSource]; exact hlate)
        have e0 : ∀ e1 : Event, (if l.source = .flush then e1.sludgeLoading id else e1).st.layout =
            e1.st.layout := fun e1 => by split <;> simp
        rw [e0, Event.map_st, postLot_layout, layout_updateLot (l := l), layout_updateOutlet, hsrc]
        · simpa only [outlet_outletSource] using hk
        · exact hl
      · exact .inl rfl

/-- A gate examined for opening; an outlet that was late by no more than one offset stays no later. -/
theorem openGate_lots {e : Event} {late : Fin 9 → Nat} {o : Fin 9} (h : e.st.layout.Ok late)
    (hp : e.st.part ≠ .config) (hlate : late o ≤ 1) : (e.openGate o).st.layout.Ok late := by
  rcases openGate_opens h hp hlate with he | hk
  · rw [he]; exact h
  · refine hk.mono fun o' => ?_
    rw [Function.update_apply]
    split
    · exact Nat.zero_le _
    · exact le_rfl

/-- What an opening gate does to the lot table: nothing but to the outlet's open lot. -/
theorem openGate_other {e : Event} {late : Fin 9 → Nat} {id : Fin 32} {src : Source} {st : LotState}
    (h : e.st.layout.Ok late) (hl : e.st.layout.lot id = some (src, st)) (ho : st.isOpen = true)
    {i : Fin 32} (hi : i ≠ id) : (e.openGate src.outlet).st.layout.lot i = e.st.layout.lot i := by
  unfold Event.openGate
  simp only
  split
  · rfl
  · rename_i id' l' hl'
    obtain ⟨hl', hsrc, hopen⟩ := openLot_spec hl'
    split
    · rfl
    · split
      · have e0 : ∀ e1 : Event, (if l'.source = .flush then e1.sludgeLoading id' else e1).st.layout =
            e1.st.layout := fun e1 => by split <;> simp
        rw [e0, Event.map_st, postLot_layout, layout_updateLot (l := l'), layout_updateOutlet]
        swap
        · exact hl'
        have hx := layout_lot hl'
        rw [hsrc, outletSource_outlet] at hx
        have := (h.unique hx hl hopen ho).1
        subst this
        exact Function.update_of_ne hi ..
      · rfl

/-! ### The pending pass -/

/-- A window lies at the outlet's gate lead or above it, within the carrying run. -/
theorem searchWindow_spec {s : State} {l : Lot} {w : Nat} (h : s.searchWindow l = some w) :
    s.outletOffset l.source.outlet + s.trunk.config.gateLead ≤ w ∧
      w + l.flights ≤ s.trunk.config.carry := by
  unfold State.searchWindow at h
  simp only at h
  split at h
  · have hm := List.mem_of_find?_eq_some h
    have hw := List.find?_some h
    simp only [Bool.and_eq_true, decide_eq_true_eq] at hw
    have := List.mem_range.1 hm
    exact ⟨hw.1, by omega⟩
  · exact absurd h (by simp)

/-- A PENDING lot reserved at a window: the lots stay in order, the other records as they were. -/
theorem reserveLot_lots {e : Event} {id : Fin 32} {l : Lot} {w : Nat} (h : e.st.layout.Ok onTime)
    (ht : e.st.trunkOk = true) (hp : e.st.part ≠ .config)
    (hl : e.st.layout.lot id = some (l.source, .pending))
    (hg : e.st.outlets[l.source.outlet].gate ≠ .fault) (hw : e.st.searchWindow l = some w) :
    (e.reserveLot id l w).st.layout.Ok onTime ∧
      ∀ i, i ≠ id → (e.reserveLot id l w).st.layout.lot i = e.st.layout.lot i := by
  obtain ⟨hlow, hhigh⟩ := searchWindow_spec hw
  have hc : 1 ≤ e.st.trunk.config.gateLead ∧ e.st.trunk.config.carry ≤ 192 := by
    simp only [State.trunkOk, trunkConfigOk, within, Bool.and_eq_true, decide_eq_true_eq] at ht
    omega
  obtain ⟨m, hm, hsrc, -⟩ := lot_layout hl
  let f : Nat → Flight := fun d =>
    if d < e.st.trunk.config.carry then (e.st.trunk.reserve id w l.flights).flight d else .empty
  have hr : ∀ r : State, r = ((((e.st.withTrunk (e.st.trunk.reserve id w l.flights)).updateLot id
      fun l => { l with state := .reserved }).addCommitment l.target.bin l.declared).postLot id) →
      r.layout = { e.st.layout with
        flight := f
        lot := Function.update e.st.layout.lot id (some (l.source, .reserved)) } := by
    rintro _ rfl
    rw [postLot_layout, addCommitment_layout, layout_updateLot (l := m),
      layout_withTrunk e.st (reserve_config ..), hsrc]
    exact hm
  have hk := h.reserve (f := f) hl hg fun d x hd => by
    simp only [f] at hd
    split at hd
    · rename_i hdc
      rcases flight_reserve (by omega) (by omega) hd with hd | ⟨rfl, hwd⟩
      · exact .inl ((layout_flight hdc).trans hd)
      · exact .inr ⟨rfl, by show e.st.outletOffset _ < d; omega⟩
    · exact absurd hd (by simp)
  unfold Event.reserveLot
  simp only
  rw [← hr _ rfl] at hk
  split
  · refine ⟨openGate_lots hk ?_ (Nat.zero_le _), fun i hi => ?_⟩
    · exact fun hc => hp ((congrArg Layout.part (hr _ rfl)).symm.trans hc)
    rw [openGate_other (id := id) (st := .reserved) hk ?_ rfl hi]
    · rw [Event.map_st, hr _ rfl]
      exact Function.update_of_ne hi ..
    · rw [Event.map_st, hr _ rfl]
      exact Function.update_self ..
  · refine ⟨hk, fun i hi => ?_⟩
    rw [Event.map_st, hr _ rfl]
    exact Function.update_of_ne hi ..

theorem trunkOk_of_ground {s t : State} (h : s.ground = t.ground) : s.trunkOk = t.trunkOk := by
  have hh := congrArg (fun x : State => x.trunk.head) h
  have hb := congrArg (fun x : State => x.trunk.belt) h
  have hc := congrArg (fun x : State => x.trunk.config) h
  simp only [State.ground] at hh hb hc
  simp only [State.trunkOk, hh, hb, hc]

theorem part_of_ground {s t : State} (h : s.ground = t.ground) : s.part = t.part := by
  show s.ground.part = t.ground.part
  rw [h]

/-- One lot visited by the pass. -/
theorem visitLot_lots {e : Event} {x : Fin 32 × Lot} (h : e.st.layout.Ok onTime)
    (ht : e.st.trunkOk = true) (hp : e.st.part ≠ .config)
    (hl : e.st.layout.lot x.1 = some (x.2.source, .pending)) :
    (e.visitLot x).st.layout.Ok onTime ∧
      ∀ i, i ≠ x.1 → (e.visitLot x).st.layout.lot i = e.st.layout.lot i := by
  unfold Event.visitLot
  split
  · exact ⟨h, fun _ _ => rfl⟩
  · split
    · exact reserveLot_lots h ht hp hl ‹_› ‹_›
    · exact ⟨h, fun _ _ => rfl⟩

theorem insertBy_perm {α : Type} (before : α → α → Bool) (x : α) (l : List α) :
    (insertBy before x l).Perm (x :: l) := by
  induction l with
  | nil => exact .refl _
  | cons y l ih =>
    unfold insertBy
    split
    · exact .refl _
    · exact (ih.cons y).trans (.swap ..)

theorem sortBy_perm {α : Type} (before : α → α → Bool) (l : List α) : (sortBy before l).Perm l := by
  induction l with
  | nil => exact .refl _
  | cons x l ih => exact (insertBy_perm before x _).trans (ih.cons x)

/-- The lots of the pass are PENDING. -/
theorem pendingLots_spec {s : State} {x : Fin 32 × Lot} (h : x ∈ s.pendingLots) :
    s.layout.lot x.1 = some (x.2.source, .pending) := by
  rw [State.pendingLots, (sortBy_perm ..).mem_iff, List.mem_filterMap] at h
  obtain ⟨i, -, hi⟩ := h
  split at hi
  · split at hi
    · rename_i hl hs
      obtain rfl := Option.some.inj hi
      rw [← hs]
      exact layout_lot hl
    · exact absurd hi (by simp)
  · exact absurd hi (by simp)

/-- The pass visits a lot once. -/
theorem pendingLots_once (s : State) : s.pendingLots.Pairwise fun a b => a.1 ≠ b.1 := by
  rw [State.pendingLots, (sortBy_perm ..).pairwise_iff fun h => h.symm, List.pairwise_filterMap]
  refine (List.nodup_finRange 32).imp fun {i j} hij a ha b hb => ?_
  have first : ∀ {i : Fin 32} {a : Fin 32 × Lot}, (match s.intake.lots[i] with
      | some l => if l.state = .pending then some (i, l) else none
      | none => none) = some a → a.1 = i := fun {i a} ha => by
    split at ha
    · split at ha
      · obtain rfl := Option.some.inj ha; rfl
      · exact absurd ha (by simp)
    · exact absurd ha (by simp)
  rw [first ha, first hb]
  exact hij

/-- The pending pass keeps the lots in order. -/
theorem pendingPass_lots {e : Event} (h : e.st.layout.Ok onTime) (ht : e.st.trunkOk = true)
    (hc : e.st.part = .config → ∀ i, e.st.layout.lot i = none) :
    e.pendingPass.st.layout.Ok onTime := by
  have key : ∀ (xs : List (Fin 32 × Lot)) (e : Event), e.st.layout.Ok onTime → e.st.trunkOk = true →
      (e.st.part = .config → ∀ i, e.st.layout.lot i = none) →
      (∀ x ∈ xs, e.st.layout.lot x.1 = some (x.2.source, .pending)) →
      xs.Pairwise (fun a b => a.1 ≠ b.1) → (xs.foldl Event.visitLot e).st.layout.Ok onTime := by
    intro xs
    induction xs with
    | nil => intro e h _ _ _ _; exact h
    | cons x xs ih =>
      intro e h ht hc hx hn
      have hlx := hx x (by simp)
      have hp : e.st.part ≠ .config := fun hp => by
        rw [hc hp] at hlx
        exact absurd hlx (by simp)
      obtain ⟨hk, hother⟩ := visitLot_lots h ht hp hlx
      have hg := ground_of_steady (visitLot_steady e x)
      rw [List.pairwise_cons] at hn
      refine ih _ hk ((trunkOk_of_ground hg).trans ht)
        (fun hc' => absurd ((part_of_ground hg).symm.trans hc') hp) (fun y hy => ?_) hn.2
      rw [hother y.1 (hn.1 y hy).symm]
      exact hx y (by simp [hy])
  exact key _ e h ht hc (fun x hx => pendingLots_spec hx) (pendingLots_once _)

/-! ### The end of an event -/

section
variable {e : Event}

theorem passes_lots (h : e.st.layout.Ok onTime) (ht : e.st.trunkOk = true)
    (hc : e.st.part = .config → ∀ i, e.st.layout.lot i = none) : e.passes.st.layout.Ok onTime := by
  have hx : (if e.exam then { e with st := e.st.examine, exam := false } else e).st.layout =
      e.st.layout := by
    split
    · exact examine_layout _
    · rfl
  have hg : (if e.exam then { e with st := e.st.examine, exam := false } else e).st.ground =
      e.st.ground := by
    split
    · exact examine_ground _
    · rfl
  unfold Event.passes
  simp only
  generalize (if e.exam then { e with st := e.st.examine, exam := false } else e) = e1 at hx hg
  rw [← hx] at h hc
  rw [← trunkOk_of_ground hg] at ht
  rw [← part_of_ground hg] at hc
  split
  · exact pendingPass_lots h ht hc
  · exact h

theorem select_lots {late : Fin 9 → Nat} (h : e.st.layout.Ok late) : e.select.st.layout.Ok late := by
  unfold Event.select
  split
  · exact h
  · split
    · exact h
    · simp only
      split
      · unfold Event.selectUnit Event.requestSludge
        exact takeUpHeld_lots h
      · exact h

/-- The end of an event keeps the lots in order. -/
theorem settleAs_lots (b : Bool) (h : e.st.layout.Ok onTime) (ht : e.st.trunkOk = true)
    (hc : e.st.part = .config → ∀ i, e.st.layout.lot i = none) :
    (e.settleAs b).final.layout.Ok onTime := by
  have hp := passes_lots h ht hc
  have hg := ground_of_steady (passes_steady e)
  unfold Event.settleAs
  simp only
  split
  · have hg' : (e.passes.st.evaluate b).ground = e.st.ground :=
      (ground_of_steady (evaluate_steady ..)).trans hg
    rw [← evaluate_layout _ b] at hp
    split
    · rename_i ho
      have hs := select_lots (e := Event.of (e.passes.st.evaluate b)) hp
      have hg'' := (ground_of_steady (select_steady (Event.of (e.passes.st.evaluate b)))).trans hg'
      have hq := passes_lots hs ((trunkOk_of_ground hg'').trans ht) fun hc' => by
        have hpart := (part_of_ground (hg''.trans hg'.symm)).symm.trans hc'
        rw [State.operating, hpart] at ho
        exact absurd ho (by decide)
      unfold Event.afterSelection
      simp only
      split
      · rw [evaluate_layout]; exact hq
      · exact hq
    · exact hp
  · exact hp

/-- A state whose lots stand in order has them in order at the end of an event. -/
theorem settle_lotsOk (h : e.st.LotsOk) (ht : e.st.trunkOk = true) (hc : e.st.configOk) :
    e.settle.LotsOk :=
  (lotsOk_iff _).2 <| settleAs_lots false ((lotsOk_iff _).1 h) ht fun hp i => by
    simp only [State.layout, (hc hp).2.1 i, Option.map_none]
end

end Sys2Proof.Machine
end

