-- ==== Sys2Proof/Laws/Memory.lean ====
section
/-! SUPPORT. The preset memory: a write keeps the canonical form, and a read after it. -/

namespace Sys2Proof.Machine

namespace Memory

/-- The canonical form from an address holds from every lower one. -/
theorem wfFrom_weaken {lo lo' : Nat} (h : lo ≤ lo') :
    ∀ {m : List Host.Cell}, wfFrom lo' m = true → wfFrom lo m = true
  | [], _ => rfl
  | (_, _) :: _, hm => by
    simp only [wfFrom, Bool.and_eq_true, decide_eq_true_eq] at hm ⊢
    exact ⟨⟨by omega, hm.1.2⟩, hm.2⟩

/-- Below the canonical form's first address every byte reads as 0. -/
theorem read_below {a : Nat} : ∀ {m : List Host.Cell} {lo : Nat}, wfFrom lo m = true → a < lo → read m a = 0
  | [], _, _, _ => rfl
  | (k, _) :: rest, lo, hm, ha => by
    simp only [wfFrom, Bool.and_eq_true, decide_eq_true_eq] at hm
    have : k ≠ a := by omega
    simp only [read, if_neg this]
    exact read_below hm.2 (by omega)

/-- A write keeps the canonical form. -/
theorem wfFrom_write {a : Nat} (b : Byte) :
    ∀ {m : List Host.Cell} {lo : Nat}, wfFrom lo m = true → lo ≤ a → wfFrom lo (write m a b) = true
  | [], lo, _, ha => by
    by_cases h : b = 0#8 <;> simp [write, wfFrom, h, ha]
  | (k, c) :: rest, lo, hm, ha => by
    simp only [wfFrom, Bool.and_eq_true, decide_eq_true_eq] at hm
    obtain ⟨⟨h1, h2⟩, h3⟩ := hm
    unfold write
    split
    · split
      · simp only [wfFrom, Bool.and_eq_true, decide_eq_true_eq]
        exact ⟨⟨h1, h2⟩, h3⟩
      · rename_i hak hb
        simp only [wfFrom, Bool.and_eq_true, decide_eq_true_eq]
        exact ⟨⟨ha, hb⟩, ⟨by omega, h2⟩, h3⟩
    · split
      · split
        · exact wfFrom_weaken (by omega) h3
        · rename_i hak hb
          simp only [wfFrom, Bool.and_eq_true, decide_eq_true_eq]
          subst_vars
          exact ⟨⟨h1, hb⟩, h3⟩
      · simp only [wfFrom, Bool.and_eq_true, decide_eq_true_eq]
        exact ⟨⟨h1, h2⟩, wfFrom_write b h3 (by omega)⟩

/-- What a byte reads as after a write. -/
theorem read_write {a : Nat} (b : Byte) (x : Nat) :
    ∀ {m : List Host.Cell} {lo : Nat}, wfFrom lo m = true →
      read (write m a b) x = if x = a then b else read m x
  | [], _, _ => by
    by_cases h : b = 0#8
    · by_cases hx : x = a <;> simp [write, read, h, hx]
    · by_cases hx : x = a
      · simp [write, read, h, hx]
      · have : a ≠ x := fun e => hx e.symm
        simp [write, read, h, hx, this]
  | (k, c) :: rest, lo, hm => by
    have hm0 := hm
    simp only [wfFrom, Bool.and_eq_true, decide_eq_true_eq] at hm
    obtain ⟨⟨h1, h2⟩, h3⟩ := hm
    unfold write
    split
    · rename_i hak
      split
      · rename_i hb
        by_cases hx : x = a
        · subst hx hb
          have : k ≠ x := by omega
          simp only [read, if_neg this, if_true]
          exact read_below h3 (by omega)
        · simp [hx]
      · by_cases hx : x = a
        · simp [read, hx]
        · have : a ≠ x := fun e => hx e.symm
          simp [read, hx, this]
    · split
      · rename_i hak
        subst hak
        split
        · rename_i hb
          by_cases hx : x = a
          · subst hx hb
            simp only [if_true]
            exact read_below h3 (by omega)
          · have : a ≠ x := fun e => hx e.symm
            simp [read, hx, this]
        · by_cases hx : x = a
          · simp [read, hx]
          · have : a ≠ x := fun e => hx e.symm
            simp [read, hx, this]
      · rename_i hak hne
        simp only [read]
        by_cases hk : k = x
        · have : x ≠ a := by omega
          simp [hk, this]
        · simp only [if_neg hk]
          exact read_write b x h3

/-- No address at or above `n` is listed after a write below it. -/
theorem bounded_write {n a : Nat} (b : Byte) (ha : a < n) :
    ∀ {m : List Host.Cell}, (m.all fun x => decide (x.1 < n)) = true →
      ((write m a b).all fun x => decide (x.1 < n)) = true
  | [], _ => by
    by_cases h : b = 0#8 <;> simp [write, h, ha]
  | (k, c) :: rest, hm => by
    simp only [List.all_cons, Bool.and_eq_true, decide_eq_true_eq] at hm
    unfold write
    split
    · split
      · simp only [List.all_cons, Bool.and_eq_true, decide_eq_true_eq]; exact hm
      · simp only [List.all_cons, Bool.and_eq_true, decide_eq_true_eq]; exact ⟨ha, hm⟩
    · split
      · split
        · exact hm.2
        · simp only [List.all_cons, Bool.and_eq_true, decide_eq_true_eq]; exact ⟨ha, hm.2⟩
      · simp only [List.all_cons, Bool.and_eq_true, decide_eq_true_eq]
        exact ⟨hm.1, bounded_write b ha hm.2⟩

/-- A write of a run keeps the canonical form. -/
theorem wf_writeRun : ∀ (bs : List Byte) {m : List Host.Cell} (a : Nat),
    wf m = true → wf (writeRun m a bs) = true
  | [], _, _, h => h
  | b :: bs, _, a, h => wf_writeRun bs (a + 1) (wfFrom_write b h (Nat.zero_le a))

/-- A write of a run below `n` lists no address at or above `n`. -/
theorem bounded_writeRun {n : Nat} : ∀ (bs : List Byte) {m : List Host.Cell} (a : Nat),
    a + bs.length ≤ n → (m.all fun x => decide (x.1 < n)) = true →
      ((writeRun m a bs).all fun x => decide (x.1 < n)) = true
  | [], _, _, _, h => h
  | b :: bs, _, a, ha, h => by
    simp only [List.length_cons] at ha
    exact bounded_writeRun bs (a + 1) (by omega) (bounded_write b (by omega) h)

/-- What a byte reads as after a write of a run. -/
theorem read_writeRun : ∀ (bs : List Byte) {m : List Host.Cell} (a x : Nat), wf m = true →
    read (writeRun m a bs) x =
      if a ≤ x ∧ x < a + bs.length then bs.getD (x - a) 0 else read m x
  | [], m, a, x, _ => by
    simp [writeRun]
  | b :: bs, m, a, x, h => by
    have h' : wf (write m a b) = true := wfFrom_write b h (Nat.zero_le a)
    simp only [writeRun, List.length_cons]
    rw [read_writeRun bs (a + 1) x h', read_write b x h]
    by_cases hx : x = a
    · subst hx
      have h1 : ¬(x + 1 ≤ x ∧ x < x + 1 + bs.length) := by omega
      have h2 : x ≤ x ∧ x < x + (bs.length + 1) := by omega
      simp [h2]
    · by_cases h1 : a + 1 ≤ x ∧ x < a + 1 + bs.length
      · have h2 : a ≤ x ∧ x < a + (bs.length + 1) := by omega
        have h3 : x - a = (x - (a + 1)) + 1 := by omega
        rw [if_pos h1, if_pos h2, h3, List.getD_cons_succ]
      · have h2 : ¬(a ≤ x ∧ x < a + (bs.length + 1)) := by omega
        rw [if_neg h1, if_neg h2, if_neg hx]

end Memory

end Sys2Proof.Machine
end

