-- ==== Sys2Proof/Laws/PerInstr.lean ====
section
/-! SUPPORT. One lemma per command: a command that carries a request code of the code table names a
port and a known code, and a well-formed request arrives on a port that sends replies. -/

namespace Sys2Proof.Laws

/-- A request row has a port and a code of section 10.6, and well-formed it does not arrive on the
sample port. -/
def Port.Statement (i : Instr) : Prop :=
  (∀ code, i.requestCode = some code → i.requestPort.isSome = true ∧ Machine.isKnownCode code = true) ∧
    (i.wellFormed = true → i.requestPort ≠ some .sample)

/-- The second half of the statement is the check itself. -/
theorem Port.statement_of {i : Instr}
    (h : ∀ code, i.requestCode = some code →
      i.requestPort.isSome = true ∧ Machine.isKnownCode code = true) : Port.Statement i :=
  ⟨h, fun w => by
    simp only [Instr.wellFormed, Bool.and_eq_true, decide_eq_true_eq] at w
    exact w.1⟩

/-- A row with no code in the code table. -/
theorem Port.no_code {i : Instr} (h : i.requestCode = none) : Port.Statement i :=
  Port.statement_of fun code hc => by rw [h] at hc; cases hc

/-- A row with a code of the code table. -/
theorem Port.code_of {i : Instr} {code : Byte} (h : i.requestCode = some code)
    (hp : i.requestPort.isSome = true) (hk : Machine.isKnownCode code = true) : Port.Statement i :=
  Port.statement_of fun x hx => by
    rw [h] at hx
    cases hx
    exact ⟨hp, hk⟩

theorem Port.powerOn : Port.Statement .powerOn := Port.no_code rfl
theorem Port.pitchEvent : Port.Statement .pitchEvent := Port.no_code rfl
theorem Port.homeMark : Port.Statement .homeMark := Port.no_code rfl
theorem Port.sampleSet (set : SampleSet) : Port.Statement (.sampleSet set) := Port.no_code rfl
theorem Port.stalenessTimerExpiry : Port.Statement .stalenessTimerExpiry := Port.no_code rfl
theorem Port.reverseTimerExpiry : Port.Statement .reverseTimerExpiry := Port.no_code rfl
theorem Port.probeTimerExpiry : Port.Statement .probeTimerExpiry := Port.no_code rfl
theorem Port.drainTimerExpiry : Port.Statement .drainTimerExpiry := Port.no_code rfl
theorem Port.routingSettledChange (level : Bool) : Port.Statement (.routingSettledChange level) :=
  Port.no_code rfl
theorem Port.routingMove : Port.Statement .routingMove := Port.no_code rfl
theorem Port.routingTimerExpiry : Port.Statement .routingTimerExpiry := Port.no_code rfl
theorem Port.binPresentChange (bin : Fin 5) (level : Bool) : Port.Statement (.binPresentChange bin level) :=
  Port.no_code rfl
theorem Port.gateClosedChange (outlet : Fin 9) (level : Bool) : Port.Statement (.gateClosedChange outlet level) :=
  Port.no_code rfl
theorem Port.gateTimerExpiry (outlet : Fin 9) : Port.Statement (.gateTimerExpiry outlet) := Port.no_code rfl
theorem Port.heldSludgeRequestTakenUp : Port.Statement .heldSludgeRequestTakenUp := Port.no_code rfl
theorem Port.flushDone (unit : Fin 6) (level : Bool) : Port.Statement (.flushDone unit level) :=
  Port.no_code rfl
theorem Port.flushTimerExpiry (unit : Fin 6) : Port.Statement (.flushTimerExpiry unit) := Port.no_code rfl
theorem Port.settleTimerExpiry (cell : Fin 8) (kind : ValveKind) : Port.Statement (.settleTimerExpiry cell kind) :=
  Port.no_code rfl
theorem Port.stepTimerExpiry : Port.Statement .stepTimerExpiry := Port.no_code rfl
theorem Port.linkTimerExpiry (cell : Fin 8) : Port.Statement (.linkTimerExpiry cell) := Port.no_code rfl
theorem Port.gapTimerExpiry (port : Port) : Port.Statement (.gapTimerExpiry port) := Port.no_code rfl
theorem Port.frameDropped (port : Port) (bytes : List Byte) : Port.Statement (.frameDropped port bytes) :=
  Port.no_code rfl
theorem Port.frameSent (port : Port) : Port.Statement (.frameSent port) := Port.no_code rfl
theorem Port.unknownRequest (port : Port) (code : Byte) : Port.Statement (.unknownRequest port code) :=
  Port.no_code rfl
theorem Port.startJob (port : Port) (profile : Nat) : Port.Statement (.startJob port profile) :=
  Port.code_of rfl rfl rfl
theorem Port.endJob (port : Port) : Port.Statement (.endJob port) := Port.code_of rfl rfl rfl
theorem Port.pause (port : Port) : Port.Statement (.pause port) := Port.code_of rfl rfl rfl
theorem Port.continueJob (port : Port) : Port.Statement (.continueJob port) := Port.code_of rfl rfl rfl
theorem Port.setFlood (port : Port) (flow : Nat) : Port.Statement (.setFlood port flow) :=
  Port.code_of rfl rfl rfl
theorem Port.setHp (port : Port) (flow : Nat) : Port.Statement (.setHp port flow) := Port.code_of rfl rfl rfl
theorem Port.discharge (port : Port) (flights volume notify : Nat) : Port.Statement (.discharge port flights volume notify) :=
  Port.code_of rfl rfl rfl
theorem Port.dischargeEnd (port : Port) (presence volume : Nat) : Port.Statement (.dischargeEnd port presence volume) :=
  Port.code_of rfl rfl rfl
theorem Port.query (port : Port) : Port.Statement (.query port) := Port.code_of rfl rfl rfl
theorem Port.commission (port : Port) : Port.Statement (.commission port) := Port.code_of rfl rfl rfl
theorem Port.decommission (port : Port) : Port.Statement (.decommission port) := Port.code_of rfl rfl rfl
theorem Port.restart (port : Port) : Port.Statement (.restart port) := Port.code_of rfl rfl rfl
theorem Port.writeTrunkConfig (port : Port) (config : TrunkConfig) : Port.Statement (.writeTrunkConfig port config) :=
  Port.code_of rfl rfl rfl
theorem Port.writeCellConfig (port : Port) (target : Nat) (config : CellConfigWrite) : Port.Statement (.writeCellConfig port target config) :=
  Port.code_of rfl rfl rfl
theorem Port.writeCellConfigSupply (port : Port) (config : SupplyConfig) : Port.Statement (.writeCellConfigSupply port config) :=
  Port.code_of rfl rfl rfl
theorem Port.writeFilterConfig (port : Port) (target : Nat) (config : UnitConfig) : Port.Statement (.writeFilterConfig port target config) :=
  Port.code_of rfl rfl rfl
theorem Port.writeFilterConfigSludge (port : Port) (config : SludgeSettings) : Port.Statement (.writeFilterConfigSludge port config) :=
  Port.code_of rfl rfl rfl
theorem Port.writeTankConfig (port : Port) (config : TankConfig) : Port.Statement (.writeTankConfig port config) :=
  Port.code_of rfl rfl rfl
theorem Port.writeBinConfig (port : Port) (config : DeliveryConfig) : Port.Statement (.writeBinConfig port config) :=
  Port.code_of rfl rfl rfl
theorem Port.writeSensorConfig (port : Port) (config : SensorConfigWrite) : Port.Statement (.writeSensorConfig port config) :=
  Port.code_of rfl rfl rfl
theorem Port.writeGroup (port : Port) (group base count : Nat) : Port.Statement (.writeGroup port group base count) :=
  Port.code_of rfl rfl rfl
theorem Port.writeRecipe (port : Port) (recipe : Nat) (config : RecipeWrite) : Port.Statement (.writeRecipe port recipe config) :=
  Port.code_of rfl rfl rfl
theorem Port.writePresets (port : Port) (start : Nat) (run : List Byte) : Port.Statement (.writePresets port start run) :=
  Port.code_of rfl rfl rfl
theorem Port.writeProfile (port : Port) (profile : Nat) (config : ProfileWrite) : Port.Statement (.writeProfile port profile config) :=
  Port.code_of rfl rfl rfl
theorem Port.eraseProfile (port : Port) (profile : Nat) : Port.Statement (.eraseProfile port profile) :=
  Port.code_of rfl rfl rfl
theorem Port.filterOffline (port : Port) (unit : Nat) : Port.Statement (.filterOffline port unit) :=
  Port.code_of rfl rfl rfl
theorem Port.filterOnline (port : Port) (unit : Nat) : Port.Statement (.filterOnline port unit) :=
  Port.code_of rfl rfl rfl
theorem Port.forceFlush (port : Port) (unit : Nat) : Port.Statement (.forceFlush port unit) :=
  Port.code_of rfl rfl rfl
theorem Port.binRelease (port : Port) (bin : Nat) : Port.Statement (.binRelease port bin) :=
  Port.code_of rfl rfl rfl
theorem Port.binRestore (port : Port) (bin fill : Nat) : Port.Statement (.binRestore port bin fill) :=
  Port.code_of rfl rfl rfl
theorem Port.crusherCleared (port : Port) : Port.Statement (.crusherCleared port) := Port.code_of rfl rfl rfl
theorem Port.clearGate (port : Port) (outlet : Nat) : Port.Statement (.clearGate port outlet) :=
  Port.code_of rfl rfl rfl
theorem Port.trunkStop (port : Port) : Port.Statement (.trunkStop port) := Port.code_of rfl rfl rfl
theorem Port.trunkRun (port : Port) : Port.Statement (.trunkRun port) := Port.code_of rfl rfl rfl
theorem Port.clearSupplyFault (port : Port) (which : Nat) : Port.Statement (.clearSupplyFault port which) :=
  Port.code_of rfl rfl rfl
theorem Port.setMasks (port : Port) (range invalid overflow depleted : Nat) : Port.Statement (.setMasks port range invalid overflow depleted) :=
  Port.code_of rfl rfl rfl
theorem Port.clearExceptions (port : Port) (selection : Nat) : Port.Statement (.clearExceptions port selection) :=
  Port.code_of rfl rfl rfl
theorem Port.clearPair (port : Port) (pair : Nat) : Port.Statement (.clearPair port pair) :=
  Port.code_of rfl rfl rfl
theorem Port.setAlertEnables (port : Port) (enables : Vector Nat 15) : Port.Statement (.setAlertEnables port enables) :=
  Port.code_of rfl rfl rfl
theorem Port.clearAlerts (port : Port) (selection : Nat) : Port.Statement (.clearAlerts port selection) :=
  Port.code_of rfl rfl rfl
theorem Port.readCell (port : Port) (cell segment : Nat) : Port.Statement (.readCell port cell segment) :=
  Port.code_of rfl rfl rfl
theorem Port.readLots (port : Port) (lot segment : Nat) : Port.Statement (.readLots port lot segment) :=
  Port.code_of rfl rfl rfl
theorem Port.readMap (port : Port) (start count segment : Nat) : Port.Statement (.readMap port start count segment) :=
  Port.code_of rfl rfl rfl
theorem Port.readFilter (port : Port) (segment : Nat) : Port.Statement (.readFilter port segment) :=
  Port.code_of rfl rfl rfl
theorem Port.readBalance (port : Port) (segment : Nat) : Port.Statement (.readBalance port segment) :=
  Port.code_of rfl rfl rfl
theorem Port.readBins (port : Port) (segment : Nat) : Port.Statement (.readBins port segment) :=
  Port.code_of rfl rfl rfl
theorem Port.readProfile (port : Port) (profile part start segment : Nat) : Port.Statement (.readProfile port profile part start segment) :=
  Port.code_of rfl rfl rfl
theorem Port.readRecipe (port : Port) (kind number segment : Nat) : Port.Statement (.readRecipe port kind number segment) :=
  Port.code_of rfl rfl rfl
theorem Port.readPorts (port : Port) (clear segment : Nat) : Port.Statement (.readPorts port clear segment) :=
  Port.code_of rfl rfl rfl
theorem Port.onBehalf (port : Port) (cell : Nat) (inner : List Byte) : Port.Statement (.onBehalf port cell inner) :=
  Port.code_of rfl rfl rfl
theorem Port.receivedByte (port : Port) (byte : Byte) : Port.Statement (.receivedByte port byte) :=
  Port.no_code rfl

end Sys2Proof.Laws
end

