-- ==== Sys2Proof/Laws/PitchKept.lean ====
section
/-! SUPPORT. The pitch event keeps `State.LotsOk`: the map's move leaves every outlet late by one
offset, and each outlet passing brings its outlet up to date. -/

namespace Sys2Proof.Machine

/-! ### What the pitch's operations do to the layout -/

section
variable {s : State}

theorem layout_congr {s t : State} (hp : s.part = t.part) (ht : s.trunk = t.trunk)
    (hi : s.layout.lot = t.layout.lot) (ho : s.outlets = t.outlets) (hc : s.cells = t.cells) :
    s.layout = t.layout := by
  have hoff : s.outletOffset = t.outletOffset := by
    funext o
    simp only [State.outletOffset, hc, ht]
  show Layout.mk .. = Layout.mk ..
  rw [hp, ht, ho, hc, hoff]
  congr 1

/-- A lot changed in neither its source nor its state. -/
theorem updateLot_layout (s : State) (id : Fin 32) {f : Lot → Lot}
    (hs : ∀ l, (f l).source = l.source) (ht : ∀ l, (f l).state = l.state) :
    (s.updateLot id f).layout = s.layout := by
  cases hl : s.intake.lots[id] with
  | none => unfold State.updateLot; simp only [hl]
  | some l =>
    rw [layout_updateLot hl, hs, ht, ← layout_lot hl, Function.update_eq_self]

@[simp] theorem restartDrain_layout (s : State) (n : Nat) : (s.restartDrain n).layout = s.layout := rfl

@[simp] theorem checkRouting_layout (s : State) (id : Fin 32) (l : Lot) :
    (s.checkRouting id l).layout = s.layout := by
  unfold State.checkRouting
  split
  · rfl
  · split
    · rfl
    · rw [postLot_layout]
      exact updateLot_layout s id (fun _ => rfl) fun _ => rfl

@[simp] theorem deliver_layout (s : State) (f : Flight) : (s.deliver f).layout = s.layout := by
  unfold State.deliver
  split
  · rfl
  · rfl
  · rfl
  · split
    · unfold State.deliverLot
      rw [restartDrain_layout, checkRouting_layout, updateLot_layout]
      · rfl
      · exact fun _ => rfl
      · exact fun _ => rfl
    · rfl

@[simp] theorem retargetCommitment_layout (e : Event) (l : Lot) :
    (e.retargetCommitment l).st.layout = e.st.layout := by
  unfold Event.retargetCommitment
  split <;> simp

@[simp] theorem markMixed_layout (e : Event) (id : Fin 32) (b : Bool) :
    (e.markMixed id b).1.st.layout = e.st.layout := by
  unfold Event.markMixed
  split
  · rfl
  · split
    · split
      · simp [updateLot_layout]
      · rfl
    · split
      · simp [updateLot_layout]
      · simp [updateLot_layout]

theorem spreadTo_layout (x : Fin 32) (acc : Event × List (Fin 32)) (y : Fin 32) :
    (spreadTo x acc y).1.st.layout = acc.1.st.layout := by
  unfold spreadTo
  split <;> simp

@[simp] theorem spread_layout (n : Nat) (e : Event) (xs : List (Fin 32)) :
    (Event.spread n e xs).st.layout = e.st.layout := by
  induction n generalizing e xs with
  | zero => cases xs <;> rfl
  | succ n ih =>
    cases xs with
    | nil => rfl
    | cons x xs =>
      rw [Event.spread, ih]
      exact foldl_keeps (fun a : Event × List (Fin 32) => a.1.st.layout) _ _ _ (spreadTo_layout x)

@[simp] theorem countLot_layout (s : State) (c : Fin 8) (v : Nat) :
    (s.countLot c v).layout = s.layout := by
  have hc : ∀ d : Fin 8, (s.countLot c v).cells[d].state = s.cells[d].state ∧
      (s.countLot c v).cells[d].config = s.cells[d].config := fun d => by
    unfold State.countLot
    simp only [State.withCells_cells, change_get]
    split
    · rename_i e
      subst e
      split <;> exact ⟨rfl, rfl⟩
    · exact ⟨rfl, rfl⟩
  have hoff : (s.countLot c v).outletOffset = s.outletOffset := by
    funext o
    unfold State.outletOffset
    split
    · rw [(hc _).2]
    · rfl
  show Layout.mk .. = Layout.mk ..
  rw [hoff]
  congr 1
  · funext d; exact (hc d).1
  · funext d; rw [(hc d).2]

theorem layout_setFlight (s : State) {d : Nat} (f : Flight) (hd : d < 256)
    (hc : s.trunk.config.carry ≤ 256) :
    (s.withTrunk (s.trunk.setFlight d f)).layout =
      { s.layout with flight := fun d' =>
          if d' = d ∧ d < s.trunk.config.carry then f else s.layout.flight d' } := by
  rw [layout_withTrunk s (t := s.trunk.setFlight d f) rfl]
  show Layout.mk .. = Layout.mk ..
  congr 1
  funext d'
  simp only [State.layout, flight_setFlight]
  by_cases h : d' < s.trunk.config.carry
  · by_cases e : d' = d
    · subst e; simp [h]
    · have : s.trunk.index d' ≠ s.trunk.index d := fun hi => e (index_inj (by omega) hd hi)
      simp [h, e, this]
  · by_cases e : d' = d
    · subst e; simp [h]
    · simp [h, e]

/-- The offsets of the outlets are kept with the cells and the trunk's configuration. -/
theorem offset_of_steady {s t : State} (h : s.steady = t.steady) : s.layout.offset = t.layout.offset := by
  have hc : s.cells = t.cells := by
    show s.steady.cells = t.steady.cells
    rw [h]
  have ht : s.trunk.config = t.trunk.config := by
    show s.steady.trunk.config = t.steady.trunk.config
    rw [h]
  funext o
  show s.outletOffset o = t.outletOffset o
  simp only [State.outletOffset, hc, ht]
end

/-! ### An outlet brought up to date -/

/-- A gate that is not OPEN, examined for opening at a passing: its outlet is late no longer. -/
theorem openGate_seen {e : Event} {late : Fin 9 → Nat} {o : Fin 9} (h : e.st.layout.Ok late)
    (hp : e.st.part ≠ .config) (hlate : late o ≤ 1) (hg : e.st.outlets[o].gate ≠ .isOpen) :
    (e.openGate o).st.layout.Ok (Function.update late o 0) := by
  rcases openGate_opens h hp hlate with he | hk
  · rw [he]
    refine h.seen fun d x st hd hx => ?_
    obtain ⟨hdc, hf⟩ := flight_layout hd
    obtain ⟨l, hl, hsrc, rfl⟩ := lot_layout hx
    refine ⟨fun hst => ?_, fun hst => ?_⟩
    · have hgate := (h.gates x _ _ hx (by rw [hst]; rfl)).2 hst
      rw [outlet_outletSource] at hgate
      by_contra hle
      have hle : d ≤ e.st.outletOffset o := by
        have : ¬ e.st.outletOffset o < d := hle
        omega
      have hopen : ∃ y, e.st.openLot (outletSource o) = some y := by
        cases ho : e.st.openLot (outletSource o) with
        | none =>
          have := openLot_none ho hx
          rw [hst] at this
          exact absurd this (by decide)
        | some y => exact ⟨y, rfl⟩
      obtain ⟨⟨id, m⟩, ho⟩ := hopen
      obtain ⟨hm, hms, hmo⟩ := openLot_spec ho
      have hmx : e.st.layout.lot id = some (outletSource o, m.state) := by
        rw [← hms]; exact layout_lot hm
      obtain ⟨rfl, -⟩ := h.unique hmx hx hmo (by rw [hst]; rfl)
      obtain rfl : m = l := by rw [hm] at hl; exact Option.some.inj hl
      have hlow : ∃ d0, e.st.lowestOffset id = some d0 ∧ d0 ≤ d := by
        unfold State.lowestOffset Trunk.lotOffsets
        rw [List.head?_filter]
        cases hfind : (List.range e.st.trunk.config.carry).find?
            fun d => (e.st.trunk.flight d).lot? == some id with
        | none =>
          rw [List.find?_eq_none] at hfind
          exact absurd (hfind d (List.mem_range.2 hdc)) (by simp [hf, Flight.lot?])
        | some d0 =>
          refine ⟨d0, rfl, ?_⟩
          rw [List.find?_range_eq_some] at hfind
          by_contra hlt
          exact absurd (hfind.2.2 d (by omega)) (by simp [hf, Flight.lot?])
      obtain ⟨d0, hlow, hle0⟩ := hlow
      have hcl : e.st.outlets[o].gate = .closed ∨ e.st.outlets[o].gate = .closing := by
        have h1 : e.st.outlets[o].gate ≠ .fault := hgate
        revert hg h1
        cases e.st.outlets[o].gate <;> simp
      have hmoved : (e.openGate o).st.layout.lot id = some (outletSource o, .loading) := by
        unfold Event.openGate
        simp only [ho, hlow]
        rw [if_pos ⟨hst, by omega, hcl⟩]
        have e0 : ∀ e1 : Event, (if m.source = .flush then e1.sludgeLoading id else e1).st.layout =
            e1.st.layout := fun e1 => by split <;> simp
        rw [e0, Event.map_st, postLot_layout, layout_updateLot (l := m), hms]
        · exact Function.update_self ..
        · exact hm
      rw [he, hmx, hst] at hmoved
      exact absurd hmoved (by simp)
    · have := (h.gates x _ _ hx (by rw [hst]; rfl)).1.1 hst
      rw [outlet_outletSource] at this
      exact absurd this hg
  · exact hk

/-- A flight marked by a spilling outlet: no flight becomes RESERVED. -/
theorem passSpill_layout (e : Event) (o : Fin 9) {d : Nat} (hd : d < 256)
    (hc : e.st.trunk.config.carry ≤ 256) : ∃ f : Nat → Flight,
      (e.passSpill o d).1.st.layout = { e.st.layout with flight := f } ∧
      ∀ d' x, f d' = .reserved x → e.st.layout.flight d' = .reserved x := by
  have same : ∃ f : Nat → Flight, e.st.layout = { e.st.layout with flight := f } ∧
      ∀ d' x, f d' = .reserved x → e.st.layout.flight d' = .reserved x :=
    ⟨_, rfl, fun _ _ h => h⟩
  have mark : ∀ x : Fin 32, ∃ f : Nat → Flight, (match e.st.intake.lots[x] with
      | none => (e, [])
      | some l => if l.source = outletSource o then (e, []) else
          let r := e.markMixed x true
          (r.1, if r.2 then [x] else [])).1.st.layout = { e.st.layout with flight := f } ∧
      ∀ d' x, f d' = .reserved x → e.st.layout.flight d' = .reserved x := fun x => by
    split
    · exact same
    · split
      · exact same
      · simp only [markMixed_layout]
        exact same
  unfold Event.passSpill
  split
  · refine ⟨_, layout_setFlight e.st .untracked hd hc, fun d' x h => ?_⟩
    split at h
    · exact absurd h (by simp)
    · exact h
  · exact same
  · exact mark _
  · exact mark _

/-- A LOADING lot becomes IN_TRANSIT, at a gate commanded closed. -/
theorem enterTransit_lots {e : Event} {late : Fin 9 → Nat} {id : Fin 32} {l : Lot}
    (hl : e.st.intake.lots[id] = some l)
    (h : { e.st.layout with
      lot := Function.update e.st.layout.lot id (some (l.source, .inTransit)) }.Ok late) :
    (e.enterTransit id).st.layout.Ok late := by
  have hu : ((e.map fun s =>
      (s.updateLot id fun l => { l with state := .inTransit }).postLot id).st.layout).Ok late := by
    rw [Event.map_st, postLot_layout, layout_updateLot hl]
    exact h
  unfold Event.enterTransit
  simp only [hl]
  split
  · rw [Event.map_st, countLot_layout]
    exact hu
  · exact takeUpHeld_lots hu

theorem countLot_offset (s : State) (c : Fin 8) (v : Nat) :
    (s.countLot c v).layout.offset = s.layout.offset := by
  rw [countLot_layout]

theorem enterTransit_offset (e : Event) (id : Fin 32) :
    (e.enterTransit id).st.layout.offset = e.st.layout.offset := by
  unfold Event.enterTransit
  split
  · rfl
  · rename_i l hl
    simp only
    split
    · rw [Event.map_st, countLot_layout, Event.map_st, postLot_layout, layout_updateLot hl]
    · rw [offset_of_steady (takeUpHeld_steady _), Event.map_st, postLot_layout, layout_updateLot hl]

/-- The flight that passes an outlet whose gate is OPEN: its outlet is late no longer. -/
theorem passOpen_lots {e : Event} {late : Fin 9 → Nat} {o : Fin 9} (h : e.st.layout.Ok late)
    (hlate : late o ≤ 1) (ho : 1 ≤ e.st.outletOffset o) (ho' : e.st.outletOffset o ≤ 191)
    (hc : e.st.trunk.config.carry ≤ 256) (hg : e.st.outlets[o].gate = .isOpen) :
    (e.passOpen o (e.st.outletOffset o - 1)).st.layout.Ok (Function.update late o 0) ∧
      (e.passOpen o (e.st.outletOffset o - 1)).st.layout.offset = e.st.layout.offset := by
  obtain ⟨id, hlot⟩ := h.served o hg
  -- the flights of an outlet's lots, once the one just passed is no longer RESERVED
  have seen : ∀ f : Nat → Flight, (∀ d x, f d = .reserved x → e.st.layout.flight d = .reserved x) →
      f (e.st.outletOffset o - 1) ≠ .reserved id →
      { e.st.layout with flight := f }.Ok (Function.update late o 0) := fun f hf hn => by
    refine (h.drop hf).seen fun d x st hd hx => ?_
    obtain ⟨src, st', hx', hs⟩ := h.flights d x (hf d x hd)
    have hst : st ≠ .reserved := fun hst => by
      subst hst
      have := (h.gates x _ _ hx rfl).1.2 (by rw [outlet_outletSource]; exact hg)
      exact absurd this (by decide)
    refine ⟨fun hr => absurd hr hst, fun hl => ?_⟩
    subst hl
    obtain ⟨rfl, -⟩ := h.unique hx hlot rfl rfl
    obtain ⟨rfl, rfl⟩ : outletSource o = src ∧ _ = st' := by
      have hx : e.st.layout.lot x = _ := hx
      rw [hx] at hx'
      simpa using hx'
    rw [outlet_outletSource] at hs
    have hle : e.st.outletOffset o ≤ d + late o := by
      rcases hs with ⟨hs, -⟩ | ⟨-, hs⟩
      · exact absurd hs (by decide)
      · exact hs
    show e.st.outletOffset o ≤ d
    by_contra hlt
    have : d = e.st.outletOffset o - 1 := by omega
    rw [this] at hd
    exact hn hd
  unfold Event.passOpen
  split
  · rename_i hn
    exact absurd (openLot_none hn hlot) (by decide)
  · rename_i id' l hl
    obtain ⟨hl, hsrc, hopen⟩ := openLot_spec hl
    have hx := layout_lot hl
    rw [hsrc] at hx
    obtain ⟨rfl, hst⟩ := h.unique hx hlot hopen rfl
    split
    · rename_i hcond
      have hset := layout_setFlight e.st (d := e.st.outletOffset o - 1) (.loaded id') (by omega) hc
      have hs : (e.st.withTrunk (e.st.trunk.setFlight (e.st.outletOffset o - 1)
          (.loaded id'))).layout.Ok (Function.update late o 0) := by
        rw [hset]
        refine seen _ (fun d x hd => ?_) fun hd => ?_
        · split at hd
          · exact absurd hd (by simp)
          · exact hd
        · simp only [true_and] at hd
          split at hd
          · exact absurd hd (by simp)
          · rename_i hn
            exact hn (flight_layout hd).1
      simp only
      split
      · rename_i h0
        refine ⟨enterTransit_lots (l := l) hl ?_, ?_⟩
        · rw [Event.map_st]
          obtain ⟨g, r, hg', hcl⟩ := layout_closeGate (e.st.withTrunk
            (e.st.trunk.setFlight (e.st.outletOffset o - 1) (.loaded id'))) o
          rw [Event.map_st, hcl, hsrc]
          have := hs.shut (id := id') (src := outletSource o) (g := g) (r := r)
            (x := some (outletSource o, .inTransit)) (by rw [hset]; exact hlot) (fun d hd => ?_)
            (fun src' st' h => by obtain ⟨-, rfl⟩ : outletSource o = src' ∧ _ = st' := by simpa using h
                                  rfl) hg'
          · rw [outlet_outletSource] at this
            exact this
          · obtain ⟨hdc, hf⟩ := flight_layout hd
            unfold Trunk.reservedCount at h0
            rw [List.length_eq_zero_iff, List.filter_eq_nil_iff] at h0
            exact h0 d (List.mem_range.2 hdc) (by simp only [beq_iff_eq]; exact hf)
        · rw [enterTransit_offset, Event.map_st]
          obtain ⟨g, r, -, hcl⟩ := layout_closeGate (e.st.withTrunk
            (e.st.trunk.setFlight (e.st.outletOffset o - 1) (.loaded id'))) o
          rw [Event.map_st, hcl, hset]
      · refine ⟨hs, ?_⟩
        rw [Event.map_st, hset]
    · rename_i hcond
      refine ⟨seen e.st.layout.flight (fun _ _ h => h) fun hd => ?_, rfl⟩
      exact hcond ⟨hst, (flight_layout hd).2⟩

/-- One outlet passing brings its outlet up to date. -/
theorem passing_lots {acc : Event × List (Fin 32)} {late : Fin 9 → Nat} {o : Fin 9}
    (h : acc.1.st.layout.Ok late) (hp : acc.1.st.part ≠ .config) (hlate : late o ≤ 1)
    (ho : 1 ≤ acc.1.st.outletOffset o) (ho' : acc.1.st.outletOffset o ≤ 191)
    (hc : acc.1.st.trunk.config.carry ≤ 256) :
    (Event.passing acc o).1.st.layout.Ok (Function.update late o 0) ∧
      (Event.passing acc o).1.st.layout.offset = acc.1.st.layout.offset := by
  unfold Event.passing
  simp only
  split
  · split
    · obtain ⟨hk, hoff⟩ := passOpen_lots h hlate ho ho' hc ‹_›
      refine ⟨openGate_lots hk ?_ (by rw [Function.update_self]; exact Nat.zero_le _), ?_⟩
      · rw [part_of_ground (passOpen_ground ..)]
        exact hp
      · rw [offset_of_steady (openGate_steady ..), hoff]
    · rename_i hg
      split
      · obtain ⟨f, hl, hf⟩ := passSpill_layout acc.1 o (d := acc.1.st.outletOffset o - 1) (by omega) hc
        refine ⟨openGate_seen ?_ ?_ hlate ?_, ?_⟩
        · rw [hl]
          exact h.drop hf
        · rw [part_of_ground (passSpill_ground ..)]
          exact hp
        · have := congrArg (fun L : Layout => L.gate o) hl
          exact fun hx => hg (this.symm.trans hx)
        · rw [offset_of_steady (openGate_steady ..), hl]
      · exact ⟨openGate_seen h hp hlate hg, offset_of_steady (openGate_steady ..)⟩
  · rename_i hu
    refine ⟨h.seen fun d x st hd hx => ?_, rfl⟩
    have hopen : st.isOpen = true := by
      obtain ⟨src, st', hx', hs⟩ := h.flights d x hd
      obtain ⟨rfl, rfl⟩ : outletSource o = src ∧ st = st' := by
        rw [hx] at hx'
        simpa using hx'
      rcases hs with ⟨rfl, -⟩ | ⟨rfl, -⟩ <;> rfl
    refine absurd ?_ hu
    unfold State.outletInUse
    split
    · rename_i h8
      have hsrc : outletSource o = .cell ⟨o.1, h8⟩ := dif_pos h8
      rw [hsrc] at hx
      refine h.enabled ⟨o.1, h8⟩ fun hdis => ?_
      rcases h.jobs x _ st hx hopen with hj | hj <;> rw [hdis] at hj <;> exact absurd hj (by decide)
    · rfl

/-- The outlet passing reports of a pitch bring every outlet up to date. -/
theorem passings_lots {e : Event} (h : e.st.layout.Ok fun _ => 1) (hp : e.st.part ≠ .config)
    (ho : ∀ o, 1 ≤ e.st.outletOffset o ∧ e.st.outletOffset o ≤ 191)
    (hc : e.st.trunk.config.carry ≤ 256) : e.passings.st.layout.Ok onTime := by
  have key : ∀ (os : List (Fin 9)) (acc : Event × List (Fin 32)) (late : Fin 9 → Nat),
      acc.1.st.layout.Ok late → (∀ o, late o ≤ 1) → acc.1.st.ground = e.st.ground →
      acc.1.st.layout.offset = e.st.layout.offset →
      (os.foldl Event.passing acc).1.st.layout.Ok fun o => if o ∈ os then 0 else late o := by
    intro os
    induction os with
    | nil => intro acc late h _ _ _; simpa using h
    | cons o os ih =>
      intro acc late h hlate hg hoff
      have hoo : acc.1.st.outletOffset o = e.st.outletOffset o := congrFun hoff o
      have hcc : acc.1.st.trunk.config = e.st.trunk.config := by
        show acc.1.st.ground.trunk.config = e.st.ground.trunk.config
        rw [hg]
      obtain ⟨hk, hoff'⟩ := passing_lots h (by rw [part_of_ground hg]; exact hp) (hlate o)
        (by rw [hoo]; exact (ho o).1) (by rw [hoo]; exact (ho o).2) (by rw [hcc]; exact hc)
      have := ih _ _ hk (fun o' => by
        rw [Function.update_apply]
        split
        · exact Nat.zero_le _
        · exact hlate o') ((passing_ground acc o).trans hg) (hoff'.trans hoff)
      refine this.mono fun o' => ?_
      rw [Function.update_apply]
      by_cases e1 : o' = o
      · simp [e1]
      · simp [e1]
  unfold Event.passings
  simp only [spread_layout]
  refine (key (List.finRange 9) (e, []) _ h (fun _ => le_rfl) rfl rfl).mono fun o => ?_
  simp [onTime]

/-! ### The pitch -/

/-- The map's move: a flight stands where the flight above it stood, the tail as given. -/
theorem flight_advance (t : Trunk) (tail : Flight) {d : Nat} (hd : d < t.config.carry)
    (hc : 1 ≤ t.config.carry) (hc' : t.config.carry ≤ 256) :
    (t.advance tail).flight d = if d = t.config.carry - 1 then tail else t.flight (d + 1) := by
  unfold Trunk.advance
  simp only
  rw [flight_setFlight]
  have hi : ∀ d, ({ t with
      head := (t.head + 1) % 256
      belt := (t.belt + 1) % t.config.beltLength } : Trunk).index d = t.index (d + 1) := fun d => by
    unfold Trunk.index
    ext
    simp only
    omega
  by_cases e : d = t.config.carry - 1
  · simp [e]
  · rw [if_neg e, if_neg fun h => e (index_inj (by omega) (by omega) h)]
    exact congrArg (fun i : Fin 256 => t.map[i]) (hi d)

/-- The layout after the map's move. -/
theorem layout_advance (s : State) (tail : Flight) (hc : 1 ≤ s.trunk.config.carry)
    (hc' : s.trunk.config.carry ≤ 256) :
    (s.withTrunk (s.trunk.advance tail)).layout = { s.layout with
      flight := fun d => if d < s.trunk.config.carry then
        (if d = s.trunk.config.carry - 1 then tail else s.trunk.flight (d + 1)) else .empty } := by
  rw [layout_withTrunk s (t := s.trunk.advance tail) rfl]
  show Layout.mk .. = Layout.mk ..
  congr 1
  funext d
  split
  · exact flight_advance _ _ ‹_› hc hc'
  · rfl

/-- The map's move leaves every outlet late by one offset. -/
theorem advance_lots {s : State} (h : s.layout.Ok onTime) (hc : 1 ≤ s.trunk.config.carry)
    (hc' : s.trunk.config.carry ≤ 256) {tail : Flight} (htail : ∀ x, tail ≠ .reserved x) :
    (s.withTrunk (s.trunk.advance tail)).layout.Ok fun _ => 1 := by
  rw [layout_advance s tail hc hc']
  refine { h with flights := fun d x hd => ?_ }
  simp only at hd
  split at hd
  · split at hd
    · exact absurd hd (htail x)
    · obtain ⟨src, st, hx, hs⟩ := h.flights (d + 1) x ((layout_flight (by omega)).trans hd)
      exact ⟨src, st, hx, hs⟩
  · exact absurd hd (by simp)

/-- The pitch event keeps the lots in order. -/
theorem pitchEvent_lots {s : State} (h : s.LotsOk) (hp : s.part ≠ .config) (ht : s.trunkOk = true)
    (ho : s.outletsOk) : s.pitchEvent.st.LotsOk := by
  have hcar : 1 ≤ s.trunk.config.carry ∧ s.trunk.config.carry ≤ 192 ∧
      4 ≤ s.trunk.config.flushOffset ∧ s.trunk.config.flushOffset ≤ 191 := by
    simp only [State.trunkOk, trunkConfigOk, within, Bool.and_eq_true, decide_eq_true_eq] at ht
    omega
  have hg := deliver_ground s (s.trunk.flight 0)
  have htr : (s.deliver (s.trunk.flight 0)).trunk.config = s.trunk.config := by
    show (s.deliver (s.trunk.flight 0)).ground.trunk.config = s.ground.trunk.config
    rw [hg]
  have hk := advance_lots (s := s.deliver (s.trunk.flight 0)) (tail := .empty)
    (by rw [deliver_layout]; exact (lotsOk_iff s).1 h) (by rw [htr]; exact hcar.1)
    (by rw [htr]; omega) nofun
  rw [lotsOk_iff]
  unfold State.pitchEvent
  simp only [Event.needPass_st, Event.needExam_st]
  refine passings_lots hk ?_ (fun o => ?_) (by
    show (s.deliver (s.trunk.flight 0)).trunk.config.carry ≤ 256
    rw [htr]; omega)
  · exact fun hx => hp ((part_of_ground hg).symm.trans hx)
  · have hoff : ((s.deliver (s.trunk.flight 0)).withTrunk
        ((s.deliver (s.trunk.flight 0)).trunk.advance .empty)).layout.offset = s.layout.offset := by
      rw [layout_advance _ _ (by rw [htr]; exact hcar.1) (by rw [htr]; omega), deliver_layout]
    have : ((s.deliver (s.trunk.flight 0)).withTrunk
        ((s.deliver (s.trunk.flight 0)).trunk.advance .empty)).outletOffset o = s.outletOffset o :=
      congrFun hoff o
    show 1 ≤ State.outletOffset _ o ∧ State.outletOffset _ o ≤ 191
    rw [Event.map_st, Event.of_st, this]
    unfold State.outletOffset
    split
    · exact ⟨by have := (ho ⟨o.1, ‹_›⟩).1; omega, (ho ⟨o.1, ‹_›⟩).2⟩
    · exact ⟨by omega, by omega⟩

/-- A delivered lot leaves the books in order: its flights are all LOADED or gone. -/
theorem deliverResident_lots {e : Event} {late : Fin 9 → Nat} {r : Resident}
    (h : e.st.layout.Ok late) (hl : ∀ l, e.st.intake.lots[r.lot] = some l → l.state.isOpen = false) :
    (e.deliverResident r).st.layout.Ok late := by
  unfold Event.deliverResident
  cases hr : e.st.intake.lots[r.lot] with
  | none => rw [endLot_none]; exacts [h, hr]
  | some l =>
    refine endLot_lots (l := l) hr ?_
    have ho := hl l hr
    refine h.finish (layout_lot hr) (fun hs => ?_) (fun d hd => ?_) nofun
    · rw [hs] at ho; exact absurd ho (by decide)
    · obtain ⟨src, st, hx, hs⟩ := h.flights d r.lot hd
      rw [layout_lot hr] at hx
      obtain ⟨-, rfl⟩ : l.source = src ∧ l.state = st := by simpa using hx
      rcases hs with ⟨hs, -⟩ | ⟨hs, -⟩ <;> rw [hs] at ho <;> exact absurd ho (by decide)

end Sys2Proof.Machine
end

