-- ==== Sys2Proof/Laws/Residents.lean ====
section
/-! SUPPORT. The resident list of the crusher: what an entry and a removal do to the lots it names. -/

namespace Sys2Proof.Machine

/-- An entry leaves the lots of the list as they are, or adds the lot at the tail (R52). -/
theorem enterResident_lots (rs : List Resident) (id : Fin 32) (pos : Target) :
    (enterResident rs id pos).map Resident.lot =
      if id ∈ rs.map Resident.lot then rs.map Resident.lot else rs.map Resident.lot ++ [id] := by
  have any : (rs.any fun r => r.lot == id) = decide (id ∈ rs.map Resident.lot) := by
    rw [Bool.eq_iff_iff]
    simp [List.any_eq_true]
  unfold enterResident
  simp only [any, decide_eq_true_eq]
  split
  · rw [List.map_map]
    exact List.map_congr_left fun r _ => by by_cases h : r.lot = id <;> simp [h]
  · simp

/-- A lot keeps one entry at most through an entry. -/
theorem enterResident_nodup {rs : List Resident} (h : (rs.map Resident.lot).Nodup) (id : Fin 32)
    (pos : Target) : ((enterResident rs id pos).map Resident.lot).Nodup := by
  rw [enterResident_lots]
  split
  · exact h
  · rename_i hn
    rw [List.nodup_append]
    refine ⟨h, by simp, fun a ha b hb hab => ?_⟩
    rw [List.mem_singleton.mp hb] at hab
    exact hn (hab ▸ ha)

/-- A lot keeps one entry at most when entries are taken out. -/
theorem filter_nodup {rs : List Resident} (h : (rs.map Resident.lot).Nodup) (keep : Resident → Bool) :
    ((rs.filter keep).map Resident.lot).Nodup :=
  h.sublist (List.filter_sublist.map _)

/-- A lot keeps one entry at most when every entry is marked stalled (R58). -/
theorem stalled_nodup {rs : List Resident} (h : (rs.map Resident.lot).Nodup) :
    ((rs.map fun r => { r with stalled := true }).map Resident.lot).Nodup := by
  rw [List.map_map]
  exact h

/-- Deliveries keep the resident list in order (R51, R52). -/
theorem deliver_residentsOk {s : State} (h : s.residentsOk) (f : Flight) : (s.deliver f).residentsOk := by
  have lot (id : Fin 32) (l : Lot) : (s.deliverLot id l).residentsOk := by
    have crusher (t : State) (g : Lot → Lot) : (t.updateLot id g).crusher = t.crusher := by
      unfold State.updateLot
      split <;> rfl
    have posted (t : State) : (t.postLot id).crusher = t.crusher := by
      unfold State.postLot State.postLotRecord
      repeat' split
      all_goals rfl
    have checked (t : State) : (t.checkRouting id l).crusher = t.crusher := by
      unfold State.checkRouting
      repeat' split
      · rfl
      · rfl
      · rw [posted, crusher]
    show (((State.checkRouting _ id l).crusher.residents).map Resident.lot).Nodup
    rw [checked, crusher]
    exact enterResident_nodup h id s.routing.position
  unfold State.deliver
  repeat' split
  · exact h
  · exact h
  · exact h
  · exact lot _ _
  · exact h

end Sys2Proof.Machine
end

