-- ==== Sys2Proof/Tests/Slice0.lean ====
section
/-! SUPPORT. Tests: an ill-formed term for each well-formedness check, small steps against the
spec's worked examples, and for each statement with hypotheses a state and operands that meet them. -/

namespace Sys2Proof.Machine

/-! ### States to start from -/

/-- The state one command leaves. -/
def after (i : Instr) (s : State) : State :=
  match exec i s with
  | .next t => t
  | _ => s

/-- After power-on, in OPERATING. -/
def opened : State := State.reset.withPart .operating

/-- A hall in service: trunk run of `carry` flights, all EMPTY, no halt reason, gates closed, bins in
service, routing settled. -/
def hall (carry : Nat) : State :=
  { opened with
    trunk :=
      { opened.trunk with
        map := Vector.replicate 256 .empty
        halt := ⟨false, false, false, false, false, false⟩
        registered := true
        config := ⟨carry, 160, 2, 2, 4, 1, 65535, 3, 40, 1000⟩ }
    routing := ⟨.reject, .settled, .stopped⟩
    bins := Vector.replicate 5 ⟨.inService, 0, 0, false⟩
    inputs := ⟨Vector.replicate 9 true, true, Vector.replicate 5 true, Vector.replicate 6 false⟩ }

/-- A map with the given flight at each offset, head index 0. -/
def State.onMap (s : State) (f : Nat → Flight) : State :=
  s.withTrunk { s.trunk with map := Vector.ofFn fun i => f i.1 }

/-- One trunk belt reading, registered. -/
def State.onBelt (s : State) (belt : Nat) : State :=
  s.withTrunk { s.trunk with belt := belt, registered := true }

/-- One lot placed in the table. -/
def State.onLot (s : State) (id : Fin 32) (l : Lot) : State :=
  s.withIntake { s.intake with lots := put s.intake.lots id (some l) }

/-- One outlet's record replaced. -/
def State.onOutlet (s : State) (o : Fin 9) (x : Outlet) : State := s.withOutlets (put s.outlets o x)

/-- One bin's record replaced. -/
def State.onBin (s : State) (b : Fin 5) (x : Bin) : State := s.withBins (put s.bins b x)

/-- One filter unit's state and post-flush check replaced, with its flush threshold. -/
def State.onUnit (s : State) (u : Fin 6) (x : UnitState) (check : Bool) (dpFlush : Nat) : State :=
  s.withFilter { s.filter with
    units := put s.filter.units u ⟨x, false, check, .running 1000, ⟨6000, 20, 120, dpFlush, 120⟩⟩ }

/-- One valve's record replaced. -/
def State.onValve (s : State) (c : Fin 8) (k : ValveKind) (v : Valve) : State := s.setValve c k v

/-- One profile defined. -/
def State.onProfile (s : State) (i : Fin 64) (p : Profile) : State :=
  s.withProfiles { s.profiles with profiles := put s.profiles.profiles i (some p) }

/-- A recipe's facts that permit HP, or bar it. -/
def jobFacts (hp : Bool) : JobFacts := ⟨⟨1, .crush⟩, 2, 1, hp, 4, 3⟩

/-- One cell in a state, linked, with a job of profile `i` where it has one. -/
def State.onCell (s : State) (c : Fin 8) (st : CellState) (i : Option (Fin 64)) (f : JobFacts) :
    State :=
  s.updateCell c fun x => { x with
    config := ⟨true, 12 + c.1, 800, 5000, 3000, 0, 2000⟩, state := st, link := .linked
    linkTimer := .running 2000, active := i, facts := i.map fun _ => f }

/-- The receiver of a port replaced. -/
def State.onRx (s : State) (p : Port) (r : Receiver) : State := s.updateRx p fun _ => r

/-- A level of a gate-closed line. -/
def State.gateLine (s : State) (o : Fin 9) (level : Bool) : State :=
  s.withInputs { s.inputs with gateClosed := put s.inputs.gateClosed o level }

/-- A lot in a state. -/
def lotIn (src : Source) (n : Nat) (st : LotState) : Lot :=
  ⟨src, n, 50, none, ⟨1, .crush⟩, 2, 1, .priority 3, 0, true, st, false, false, false, false, false⟩

/-- A profile of group 0 with no demand, owned or not. -/
def profileOf (owner : Option (Fin 8)) : Profile :=
  ⟨0, 0, 3, false, none, .zero, .zero, false, owner⟩

/-- Group 0 holds one recipe, of bin 1. -/
def State.onRecipe (s : State) (hp : Bool) : State :=
  s.withRecipes ⟨put s.recipes.groups 0 ⟨0, 1⟩, put s.recipes.recipes 0 ⟨1, .crush, 2, 1, hp, 4⟩⟩

/-- Four replies wait on a port. -/
def State.fullAt (s : State) (p : Fin 9) : State :=
  s.updateTx p fun x => { x with replies := List.replicate 4 ⟨0x09, .accepted, []⟩ }

/-- A sample set: every reading `x` but for channel `c`, which reads `y`, valid or not. -/
def setOf (x : Nat) (c : Fin 14) (y : Nat) (valid : Bool) : SampleSet :=
  ⟨put (Vector.replicate 14 x) c y, put (Vector.replicate 14 true) c valid⟩

/-- The invariants of the trunk's configuration, the outlets, the lots and the begun sludge lots, as one
test. -/
def premises (s : State) : Bool :=
  s.trunkOk && s.lotsChecked && ((List.finRange 8).all fun c =>
    decide (4 ≤ s.cells[c].config.outletOffset ∧ s.cells[c].config.outletOffset ≤ 191)) &&
  decide (∀ i : Fin 32, ∀ l ∈ s.intake.lots[i], l.source = .flush →
    (l.state = .loading ∨ l.state = .inTransit) → s.filter.begun[i] = true)

theorem premises_hold {s : State} (h : premises s = true) :
    s.trunkOk = true ∧ s.outletsOk ∧ s.LotsOk ∧ s.begunOk := by
  simp only [premises, Bool.and_eq_true, List.all_eq_true, List.mem_finRange, true_implies,
    decide_eq_true_eq] at h
  exact ⟨h.1.1.1, h.1.2, lotsOk_of_checked h.1.1.2, fun i l hl => h.2 i l (by simp [hl])⟩

/-- A reply being sent on a port: its code, status and information bytes. -/
def sent (s : State) (p : Fin 9) : Option (Byte × Verdict) :=
  match s.links.tx[p].sending with
  | some (.reply r) => some (r.code, r.verdict)
  | _ => none

end Sys2Proof.Machine

namespace Sys2Proof.Tests

open Sys2Proof.Machine

set_option Elab.async false

/-! ### Well-formedness: each check refuses a term -/

theorem test_wf_portOfRequest : (Instr.query .sample).wellFormed = false := by decide
theorem test_wf_reading : (Instr.sampleSet (setOf 0 3 65536 true)).wellFormed = false := by decide
theorem test_wf_wholeFrame :
    (Instr.frameDropped .station [0x5A, 0xE1, 1]).wellFormed = false ∧
      (Instr.frameDropped .station [0x5B, 0xE1, 0, 0, 0]).wellFormed = false ∧
      (Instr.frameDropped .station [0x5A, 0xE0, 0, 0, 0]).wellFormed = false := by decide
theorem test_wf_frameSent : (Instr.frameSent .sample).wellFormed = false := by decide
theorem test_wf_knownCode : (Instr.unknownRequest .station 0x7F).wellFormed = false := by decide
theorem test_wf_cellOperands :
    (Instr.startJob .station 256).wellFormed = false ∧
      (Instr.setFlood .station 65536).wellFormed = false ∧
      (Instr.setHp .station 65536).wellFormed = false ∧
      (Instr.discharge .station 256 0 0).wellFormed = false ∧
      (Instr.discharge .station 0 65536 0).wellFormed = false ∧
      (Instr.discharge .station 0 0 256).wellFormed = false ∧
      (Instr.dischargeEnd .station 256 0).wellFormed = false ∧
      (Instr.dischargeEnd .station 0 65536).wellFormed = false := by decide
theorem test_wf_records :
    (Instr.writeTrunkConfig .station ⟨256, 0, 0, 0, 0, 0, 0, 0, 0, 0⟩).wellFormed = false ∧
      (Instr.writeCellConfig .station 0 ⟨256, 0, 0, 0, 0, 0, 0⟩).wellFormed = false ∧
      (Instr.writeCellConfig .station 8 ⟨0, 0, 0, 0, 0, 0, 0⟩).wellFormed = false ∧
      (Instr.writeCellConfigSupply .station ⟨65536, 0, 0⟩).wellFormed = false ∧
      (Instr.writeFilterConfig .station 0 ⟨65536, 0, 0, 0, 0⟩).wellFormed = false ∧
      (Instr.writeFilterConfig .station 6 ⟨0, 0, 0, 0, 0⟩).wellFormed = false ∧
      (Instr.writeFilterConfigSludge .station ⟨256, 0, 0⟩).wellFormed = false ∧
      (Instr.writeTankConfig .station ⟨65536, 0, 0, 0, 0, 0, 0⟩).wellFormed = false := by decide
theorem test_wf_tables :
    (Instr.writeBinConfig .station ⟨Vector.replicate 5 65536, 0, 0, 0, 0, 0, 0⟩).wellFormed = false ∧
      (Instr.writeBinConfig .station ⟨Vector.replicate 5 0, 65536, 0, 0, 0, 0, 0⟩).wellFormed = false ∧
      (Instr.writeSensorConfig .station
        ⟨Vector.replicate 14 ⟨65536, 0⟩, 0, 0, 0, 0, 0⟩).wellFormed = false ∧
      (Instr.writeSensorConfig .station
        ⟨Vector.replicate 14 ⟨0, 0⟩, 0, 0, 0, 0, 256⟩).wellFormed = false := by decide
theorem test_wf_stores :
    (Instr.writeGroup .station 256 0 0).wellFormed = false ∧
      (Instr.writeRecipe .station 256 ⟨0, 0, 0, 0, 0, 0⟩).wellFormed = false ∧
      (Instr.writeRecipe .station 0 ⟨0, 0, 0, 0, 256, 0⟩).wellFormed = false ∧
      (Instr.writePresets .station 65536 []).wellFormed = false ∧
      (Instr.writePresets .station 0 (List.replicate 46 0)).wellFormed = false ∧
      (Instr.writeProfile .station 256 ⟨0, 0, 0, 0, 0, 0, 0, 0, Vector.replicate 8 0⟩).wellFormed
        = false ∧
      (Instr.writeProfile .station 0 ⟨0, 0, 0, 0, 0, 0, 0, 65536, Vector.replicate 8 0⟩).wellFormed
        = false := by decide
theorem test_wf_bytes :
    (Instr.eraseProfile .station 256).wellFormed = false ∧
      (Instr.binRestore .station 0 4294967296).wellFormed = false ∧
      (Instr.setMasks .station 0 0 256 0).wellFormed = false ∧
      (Instr.setAlertEnables .station (Vector.replicate 15 256)).wellFormed = false ∧
      (Instr.clearAlerts .station 65536).wellFormed = false ∧
      (Instr.readCell .station 0 256).wellFormed = false ∧
      (Instr.readMap .station 0 256 0).wellFormed = false ∧
      (Instr.readProfile .station 0 3 65536 0).wellFormed = false ∧
      (Instr.readProfile .station 0 0 1 0).wellFormed = false ∧
      (Instr.onBehalf .station 256 []).wellFormed = false ∧
      (Instr.onBehalf .station 0 (List.replicate 47 0)).wellFormed = false := by decide
theorem test_wf_accepts :
    (Instr.query (.cell 7)).wellFormed = true ∧
      (Instr.readProfile .station 255 3 65535 255).wellFormed = true ∧
      (Instr.frameDropped .sample [0x5A, 0xE1, 0, 0, 0]).wellFormed = true ∧
      (Instr.unknownRequest .station 0x99).wellFormed = true := by decide

/-! ### Words, frames, reset -/

theorem test_noWord : decodeTableWord 16 0 = none ∧ decodeTableWord 32 4294967295 = none := by decide
theorem test_crc :
    crc [0x31, 0x32, 0x33, 0x34, 0x35, 0x36, 0x37, 0x38, 0x39] = 0x29B1 := by decide +kernel
theorem test_resetAtRest : State.reset.finish = State.reset := by decide +kernel

/-! ### Witnesses: for each statement with hypotheses, states and operands that meet them -/

theorem witness_EmptyQueueStep :
    (State.reset.pending = [] ∧ State.reset.dueTimers = []) ∧
      (State.reset.withSamples { State.reset.samples with timer := .running 0 }).dueTimers =
        [.stalenessTimerExpiry] ∧
      ((State.reset.withSamples { State.reset.samples with timer := .running 0 }).withCrusher
        { State.reset.crusher with probe := .running 0 }).dueTimers =
        [.stalenessTimerExpiry, .probeTimerExpiry] := by decide +kernel

/-- A hall in which a step is taken, for the invariants. -/
theorem witness_invariants :
    let s := ((hall 32).onValve 2 .hp
      ⟨700, 900, some ⟨701, 3, .restore, .polish⟩, .running 5⟩).finish
    (∃ t, step s = .next t) ∧ s.memoryOk = true ∧ s.trunkOk = true ∧ s.valvesOk ∧ s.requestsOk ∧
      s.holdOk ∧ s.queuesOk ∧ s.linesOk := by
  have valves : ∀ c : Fin 8, ∀ k ∈ [ValveKind.flood, .hp], ∀ v,
      v = (((hall 32).onValve 2 .hp ⟨700, 900, some ⟨701, 3, .restore, .polish⟩, .running 5⟩).finish).valve
        c k → v.commanded ≤ v.counted ∧ ∀ p ∈ v.pending, v.commanded < p.value := by
    simp only [forall_eq]
    decide +kernel
  have both (c : Fin 8) (k : ValveKind) := valves c k (by cases k <;> simp) _ rfl
  refine ⟨⟨_, rfl⟩, by decide +kernel, by decide +kernel, fun c k => (both c k).1,
    fun c k p hp => (both c k).2 p hp, ?_, ?_, ?_⟩
  · unfold State.holdOk
    decide +kernel
  · unfold State.queuesOk
    decide +kernel
  · unfold State.linesOk
    decide +kernel
theorem witness_invariants_senders :
    let s := (hall 32).finish
    (∃ t, step s = .next t) ∧ s.sendersOk ∧ s.flagsOk := by
  refine ⟨⟨_, rfl⟩, ?_, ?_⟩
  · unfold State.sendersOk State.mayNotify
    decide +kernel
  · intro a
    cases a <;> decide +kernel
theorem witness_StepKeepsConfigEmpty :
    let s := State.reset.withSamples { State.reset.samples with timer := .running 0 }
    (∃ t, step s = .next t) ∧ s.configOk ∧ s.part = .config := by
  refine ⟨⟨_, rfl⟩, ?_, by decide +kernel⟩
  unfold State.configOk
  decide +kernel

theorem witness_DriftIsSigned :
    let t := State.reset.trunk
    (80 < t.config.beltLength ∧ 80 ≤ t.config.beltLength / 2) ∧
      (81 < t.config.beltLength ∧ t.config.beltLength / 2 < 81) ∧
      ({ t with belt := 80 } : Trunk).drift = 80 ∧ ({ t with belt := 81 } : Trunk).drift = -79 := by
  decide +kernel
theorem witness_PitchInConfig :
    (State.reset.onBelt 159).part = .config ∧ (State.reset.onBelt 159).trunkOk = true := by
  decide +kernel
theorem witness_PitchInOperating :
    let s := hall 32
    let u := s.onMap fun d => if d = 0 then .untracked else .empty
    (s.part = .operating ∧ premises s = true ∧ s.trunk.flight 0 = .empty) ∧
      (∀ i : Fin 32, s.intake.lots[i] = none) ∧ s.intake.held = none ∧
      (∀ o : Fin 9, s.outlets[o].gate = .closed) ∧
      u.part = .operating ∧ premises u = true ∧ u.trunk.flight 0 = .untracked ∧
      (∀ i : Fin 32, u.intake.lots[i] = none) ∧ u.intake.held = none ∧
      (∀ o : Fin 9, u.outlets[o].gate = .closed) := by decide +kernel
theorem witness_HomeMark :
    (State.reset.trunkOk = true ∧ State.reset.trunk.registered = false) ∧
      (∀ b ∈ [0, 1, 2, 80, 81, 158, 159], ((hall 32).onBelt b).trunkOk = true ∧
        ((hall 32).onBelt b).trunk.registered = true) ∧
      ((hall 32).onBelt 0).trunk.belt = 0 ∧
      (0 < ((hall 32).onBelt 1).trunk.drift ∧
        ((hall 32).onBelt 1).trunk.drift ≤ (hall 32).trunk.config.tolerance) ∧
      (((hall 32).onBelt 159).trunk.drift < 0 ∧
        -((hall 32).onBelt 159).trunk.drift ≤ (hall 32).trunk.config.tolerance) ∧
      ∀ b ∈ [2, 80, 81, 158],
        ((hall 32).trunk.config.tolerance : Int) < |((hall 32).onBelt b).trunk.drift| := by
  decide +kernel
theorem witness_TrunkStopAndRun :
    (State.reset.roomAt stationTx ∧ State.reset.part = .config) ∧
      (hall 32).roomAt stationTx ∧ (hall 32).part = .operating := by
  unfold State.roomAt
  decide +kernel
/-- A channel in range at the top of its span, and one reading above it. -/
theorem witness_SampleSetTaken_channels :
    let set := setOf 0 3 1000 true;
    let above := setOf 0 3 1001 true;
    (set.valid[(3 : Fin 14)] = true ∧
      State.reset.samples.config.spans[(3 : Fin 14)].lo ≤ set.readings[(3 : Fin 14)] ∧
      set.readings[(3 : Fin 14)] ≤ State.reset.samples.config.spans[(3 : Fin 14)].hi) ∧
      ¬(above.valid[(3 : Fin 14)] = true ∧
        State.reset.samples.config.spans[(3 : Fin 14)].lo ≤ above.readings[(3 : Fin 14)] ∧
        above.readings[(3 : Fin 14)] ≤ State.reset.samples.config.spans[(3 : Fin 14)].hi) ∧
      (setOf 0 3 1000 false).valid[(3 : Fin 14)] = false := by decide +kernel

/-- The clean probes 1000 and 1000 + d; the pair in DISAGREE where `n` gives its count. -/
def probes (d : Nat) (n : Option Nat) (auto : Bool) : State :=
  let m := State.reset.samples;
  State.reset.withSamples { m with
    channels := put (put m.channels 6 ⟨1000, false, .inRange⟩) 7 ⟨1000 + d, false, .inRange⟩
    clean := match n with
      | none => m.clean
      | some k => { m.clean with state := .disagree, count := k }
    config := { m.config with cleanAutoClear := auto } }

/-- What `PairAfter` asks of two probes in range: the pair's state and their difference. -/
theorem witness_SampleSetTaken_pairs :
    (∀ s ∈ [probes 10 none false, probes 11 none false, probes 10 (some 6) true,
        probes 10 (some 7) false, probes 10 (some 7) true],
      s.samples.channels[(6 : Fin 14)].range = .inRange ∧
        s.samples.channels[(7 : Fin 14)].range = .inRange) ∧
      (probes 10 none false).samples.clean.state = .agree ∧
      (probes 10 (some 6) true).samples.clean.state = .disagree ∧
      (probes 10 (some 7) true).samples.clean.count = 7 ∧
      (probes 10 (some 7) true).samples.config.cleanAutoClear = true ∧
      max 1000 1010 - min 1000 1010 ≤ State.reset.samples.config.cleanTolerance ∧
      State.reset.samples.config.cleanTolerance < max 1000 1011 - min 1000 1011 ∧
      State.reset.samples.channels[(6 : Fin 14)].range ≠ .inRange := by decide +kernel

/-- OPERATING with the crusher RUNNING, a jam threshold of 100, two sets to a jam. -/
def jamming (count allowance : Nat) (untracked : Bool) : State :=
  { hall 32 with
    delivery := { (hall 32).delivery with jamThreshold := 100, untrackedAllowance := allowance }
    crusher := { (hall 32).crusher with
      jamCount := count, untracked := untracked, allowance := allowance } }

theorem witness_SampleSetDetectsOverload :
    State.reset.part = .config ∧ (hall 32).part = .operating ∧
      (after (.sampleSet (setOf 0 11 65535 false)) (hall 32)).samples.channels[(11 : Fin 14)].held
        = true ∧
      (after (.sampleSet (setOf 0 11 65535 true)) (hall 32)).samples.channels[(11 : Fin 14)] =
        ⟨65535, false, .inRange⟩ ∧
      (after (.sampleSet (setOf 0 11 65534 true)) (hall 32)).samples.channels[(11 : Fin 14)] =
        ⟨65534, false, .inRange⟩ ∧
      (hall 32).trunk.config.overloadLimit = 65535 := by decide +kernel
theorem witness_SampleSetDetectsJam :
    (∀ s ∈ [jamming 0 3 false, jamming 1 2 false, jamming 1 1 false, jamming 1 2 true,
        jamming 1 1 true], s.part = .operating ∧ s.crusher.state = .running ∧
          ∀ r ∈ s.crusher.residents, r.crusherPath = false) ∧
      (jamming 0 3 false).crusher.jamCount + 1 < (jamming 0 3 false).delivery.jamSets ∧
      (jamming 1 2 false).delivery.jamSets ≤ (jamming 1 2 false).crusher.jamCount + 1 ∧
      1 < (jamming 1 2 false).delivery.untrackedAllowance ∧
      (jamming 1 1 false).delivery.untrackedAllowance ≤ 1 ∧
      (after (.sampleSet (setOf 0 10 100 true)) (jamming 1 2 true)).samples.channels[(10 : Fin 14)]
        = ⟨100, false, .inRange⟩ ∧
      (after (.sampleSet (setOf 0 10 99 true)) (jamming 1 2 true)).samples.channels[(10 : Fin 14)]
        = ⟨99, false, .inRange⟩ ∧
      (after (.sampleSet (setOf 0 10 99 false)) (jamming 1 2 true)).samples.channels[(10 : Fin 14)].held
        = true := by decide +kernel
theorem witness_SampleSetExaminesUnits :
    (∀ check ∈ [true, false], ∀ set ∈ [setOf 0 0 89 true, setOf 0 0 90 true, setOf 0 0 90 false],
      ((hall 32).onUnit 0 .online check 90).part = .operating ∧
        ((hall 32).onUnit 0 .online check 90).filter.units[(0 : Fin 6)].state = .online ∧
        ((hall 32).onUnit 0 .online check 90).filter.units[(0 : Fin 6)].postCheck = check ∧
        ((after (.sampleSet set) ((hall 32).onUnit 0 .online check 90)).unitDp 0).held =
          !set.valid[(0 : Fin 14)]) ∧
      ((after (.sampleSet (setOf 0 0 89 true)) ((hall 32).onUnit 0 .online true 90)).unitDp 0).value
        = 89 ∧
      ((after (.sampleSet (setOf 0 0 90 true)) ((hall 32).onUnit 0 .online true 90)).unitDp 0).value
        = 90 := by decide +kernel

/-- In CONFIG, with the lower limit and the clean area given. -/
def tank (vLow area : Nat) : State :=
  State.reset.withBalance { State.reset.balance with
    config := { State.reset.balance.config with vLow := vLow, cleanArea := area, horizon := 60 } }

/-- In CONFIG a unit is OFFLINE; a state of no run with one ONLINE overflows the total. -/
def tankAndUnit : State := (tank 0 10000).onUnit 0 .online false 1000

theorem witness_EvaluationFigures :
    (tank 400000 1000).part = .config ∧ tankAndUnit.part = .config ∧
      (let t := after (.sampleSet (setOf 0 0 0 false)) (tank 400000 1000);
        (t.balance.record.primary : Int) + t.balance.record.credit < 0) ∧
      (let t := after (.sampleSet (setOf 0 0 0 false)) tankAndUnit;
        t.balance.record.heldInput = true) ∧
      let t := after (.sampleSet ⟨put (put (Vector.replicate 14 0) 6 4000) 7 4000,
        Vector.replicate 14 true⟩) tankAndUnit;
      65535 < (t.balance.record.primary : Int) + t.balance.record.credit := by decide +kernel

/-- Lot 4 of three flights in the crusher, `n` of them entered. -/
def resident (n : Nat) (st : LotState) : State :=
  ((hall 32).onLot 4 (lotIn (.cell 1) 3 st)).withCrusher { (hall 32).crusher with
    residents := [⟨4, n, true, ⟨1, .crush⟩, false⟩], drain := .running 1 }

theorem witness_CrusherAndStalenessTimers :
    (let s := (hall 32).withCrusher { (hall 32).crusher with reverse := .running 1, probe := .running 1 };
      s.crusher.reverse.isRunning = true ∧ s.crusher.probe.isRunning = true) ∧
      (hall 32).crusher.reverse.isRunning = false ∧ (hall 32).crusher.probe.isRunning = false ∧
      (hall 32).crusher.drain.isRunning = false ∧ State.reset.samples.timer.isRunning = true ∧
      (after .stalenessTimerExpiry State.reset).samples.timer.isRunning = false ∧
      (let s := (hall 32).withCrusher { (hall 32).crusher with drain := .running 0, untracked := true };
        s.crusher.drain.isRunning = true ∧ s.crusher.residents = []) ∧
      (∀ x ∈ [(3, LotState.inTransit), (2, .inTransit), (3, .loading)],
        (resident x.1 x.2).crusher.drain.isRunning = true ∧
        (resident x.1 x.2).crusher.residents = [⟨4, x.1, true, ⟨1, .crush⟩, false⟩] ∧
        (resident x.1 x.2).intake.lots[(4 : Fin 32)] = some (lotIn (.cell 1) 3 x.2)) ∧
      (∀ x ∈ [(2, LotState.inTransit), (3, .loading)], ∀ r ∈ (resident x.1 x.2).crusher.residents,
        ∀ l ∈ (resident x.1 x.2).intake.lots[r.lot],
          l.state ≠ .inTransit ∨ l.flights ≠ r.entered) := by
  decide +kernel

/-- Lots 4 and 6 of two cells and sludge lot 11 wholly in the crusher, lot 9 in part, a flight of it
still on the trunk; the drain timer has run down. -/
def draining : State :=
  let s := (((hall 32).onLot 4 (lotIn (.cell 1) 3 .inTransit)).onLot 6 (lotIn (.cell 2) 2 .inTransit)
    ).onLot 9 (lotIn (.cell 5) 3 .inTransit);
  let s := (s.onLot 11 (lotIn .flush 1 .inTransit)).withFilter
    { s.filter with begun := put s.filter.begun 11 true };
  (s.onMap fun d => if d = 2 then .loaded 9 else .empty).withCrusher { s.crusher with
    residents := [⟨6, 2, true, ⟨1, .crush⟩, false⟩, ⟨9, 2, false, ⟨2, .crush⟩, false⟩,
      ⟨4, 3, false, ⟨2, .crush⟩, false⟩, ⟨11, 1, false, ⟨4, .bypass⟩, false⟩]
    untracked := true
    drain := .running 0 }

/-- What `LotsDelivered` asks: which lots are DELIVERED, none of them on the map, nothing waiting. -/
theorem witness_CrusherAndStalenessTimers_delivered :
    let done : Fin 32 → Bool := fun id => decide (id = 4 ∨ id = 6 ∨ id = 11);
    (draining.residentsOk ∧ draining.crusher.drain.isRunning = true ∧ premises draining = true ∧
        draining.part = .operating) ∧
      (∀ id : Fin 32, done id = true ↔ ∃ r ∈ draining.crusher.residents, r.lot = id ∧
        ∃ l ∈ draining.intake.lots[id], l.state = .inTransit ∧ l.flights = r.entered) ∧
      (∀ id : Fin 32, done id = true → (draining.intake.lots[id]).isSome = true ∧
        ∀ d < draining.trunk.config.carry, (draining.trunk.flight d).lot? ≠ some id) ∧
      (done 9 = false ∧ (draining.intake.lots[(9 : Fin 32)]).isSome = true) ∧
      draining.intake.held = none ∧ ∀ i : Fin 32, ∀ l ∈ draining.intake.lots[i],
        l.state ≠ .pending ∧ (done i = true → l.source = .flush → draining.filter.begun[i] = true) := by
  unfold State.residentsOk
  decide +kernel

/-- The routing unit in a state, its settled line at a level. -/
def routed (st : RoutingState) (timer : Timer) (level : Bool) : State :=
  ((hall 32).withRouting ⟨.reject, st, timer⟩).withInputs
    { (hall 32).inputs with routingSettled := level }

theorem witness_RoutingEvents :
    State.reset.part = .config ∧
      (∀ s ∈ [routed .moving (.running 1) false, routed .settled .stopped true],
        s.part = .operating ∧ ∀ d ≤ 2, s.trunk.flight d = .empty) ∧
      (routed .moving (.running 1) false).inputs.routingSettled = false ∧
      (routed .moving (.running 1) false).routing.state ≠ .settled ∧
      (routed .moving (.running 1) false).routing.timer.isRunning = true ∧
      (routed .settled .stopped true).inputs.routingSettled = true ∧
      (routed .settled .stopped true).routing.state = .settled ∧
      (routed .settled .stopped true).routing.timer.isRunning = false:= by decide +kernel

/-- Bin 1 in a state, its line at a level. -/
def binAt (st : BinState) (level : Bool) : State :=
  ((hall 32).onBin 1 ⟨st, 10, 20, false⟩).withInputs
    { (hall 32).inputs with binPresent := put (hall 32).inputs.binPresent 1 level }

theorem witness_BinPresentChange :
    (∀ st ∈ [BinState.released, .absent, .inService, .full, .closing, .presentWait],
      (binAt st true).inputs.binPresent[(1 : Fin 5)] = true ∧
        (binAt st true).bins[(1 : Fin 5)].state = st ∧
        (binAt st false).inputs.binPresent[(1 : Fin 5)] = false ∧
        (binAt st false).bins[(1 : Fin 5)].state = st) := by decide +kernel

/-- Outlet 1 in a state, its timer running, its line at a level. -/
def gateAt (st : GateState) (level : Bool) : State :=
  ((hall 32).onOutlet 1 ⟨st, .running 1, true, 800⟩).gateLine 1 level

theorem witness_GateEvents :
    State.reset.part = .config ∧ (hall 32).outlets[(1 : Fin 9)].timer.isRunning = false ∧
      ∀ st ∈ [GateState.closed, .isOpen, .closing, .fault],
        (gateAt st true).part = .operating ∧ (gateAt st true).outlets[(1 : Fin 9)].gate = st ∧
          (gateAt st true).inputs.gateClosed[(1 : Fin 9)] = true ∧
          (gateAt st false).inputs.gateClosed[(1 : Fin 9)] = false ∧
          (gateAt st true).outlets[(1 : Fin 9)].timer.isRunning = true := by decide +kernel

/-- A sludge request waits, the flush outlet has no lot. -/
def sludgeWaits : State := (hall 32).withIntake { (hall 32).intake with held := some ⟨2, 80⟩ }

theorem witness_HeldSludgeRequest :
    (hall 32).intake.held = none ∧ sludgeWaits.intake.held = some ⟨2, 80⟩ ∧
      sludgeWaits.openLot .flush = none ∧ sludgeWaits.nextId = some 0 := by decide +kernel

/-- Unit 2 FLUSHING with the slot, its line at a level. -/
def flushes (level : Bool) : State :=
  let s := (hall 32).onUnit 2 .flushing false 90;
  (s.withFilter { s.filter with slot := some 2, begun := put s.filter.begun 7 true }).withInputs
    { s.inputs with flushDone := put s.inputs.flushDone 2 level }

theorem witness_FlushEnds :
    (flushes false).filter.units[(2 : Fin 6)].state = .flushing ∧
      (flushes false).inputs.flushDone[(2 : Fin 6)] = false ∧
      (flushes false).filter.slot = some 2 ∧ (flushes false).filter.begun[(7 : Fin 32)] = true ∧
      (flushes true).inputs.flushDone[(2 : Fin 6)] = true ∧
      (hall 32).filter.units[(2 : Fin 6)].state ≠ .flushing ∧
      (flushes false).filter.units[(2 : Fin 6)].timer.isRunning = true ∧
      (hall 32).filter.units[(2 : Fin 6)].timer.isRunning = false := by decide +kernel

/-- A valve that settles, in CONFIG or OPERATING, and a shed step of it. -/
def settling (s : State) : State :=
  let t := s.onValve 2 .hp ⟨500, 900, none, .running 1⟩;
  t.withGrants { t.grants with
    shed := ⟨.settling, 1, some ⟨2, .hp, .b, 900, 500⟩, .running 1⟩ }

theorem witness_SettleAndStepTimers :
    (∀ s ∈ [State.reset, hall 32], ((settling s).valve 2 .hp).timer.isRunning = true ∧
      (settling s).grants.shed.timer.isRunning = true ∧
      (settling s).grants.shed.current = some ⟨2, .hp, .b, 900, 500⟩ ∧
      (s.valve 2 .hp).timer.isRunning = false ∧ s.grants.shed.timer.isRunning = false) ∧
      (settling State.reset).part = .config := by decide +kernel
theorem witness_LinkTimerExpiry :
    ((hall 32).onCell 3 .running (some 12) (jobFacts true)).cells[(3 : Fin 8)].linkTimer.isRunning = true ∧
      (hall 32).cells[(3 : Fin 8)].linkTimer.isRunning = false := by decide +kernel

/-- The station receiver with the bytes of a frame so far. -/
def receiving (p : Port) (bytes : List Byte) : State :=
  State.reset.onRx p ⟨.inFrame bytes, .running 1, false, 0, 65535⟩

theorem witness_Receivers :
    State.reset.links.rx[rxIndex .sample].state = .hunt ∧ (0x5B : Byte) ≠ 0x5A ∧
      (∀ b ∈ [[0x5A], [0x5A, 0xE1], [0x5A, 0xE1, 2], ([0x5A, 0xE1, 2, 7, 7, 7] : List Byte)],
        (receiving .station b).links.rx[rxIndex .station].state = .inFrame b) ∧
      ((0xE0 : Byte).toNat / 16 ≠ 15 - (0xE0 : Byte).toNat % 16) ∧
      ((0xE1 : Byte).toNat / 16 = 15 - (0xE1 : Byte).toNat % 16) ∧
      48 < (49 : Byte).toNat ∧ (48 : Byte).toNat ≤ 48 ∧
      (let b : List Byte := [0x5A, 0xE1, 2];
        3 ≤ b.length ∧ b.length + 1 < 5 + (b.getD 2 0).toNat) ∧
      (let b : List Byte := [0x5A, 0xE1, 2, 7, 7];
        3 ≤ b.length ∧ b.length + 1 < 5 + (b.getD 2 0).toNat) ∧
      (receiving .station [0x5A]).links.rx[rxIndex .station].gap.isRunning = true ∧
      State.reset.links.rx[rxIndex .station].gap.isRunning = false ∧
      isSound .station [0x5A, 0xE1, 1, 9, 0, 0] = false ∧
      isSound .station (frameOf 0xE1 [0x09]) = true ∧ txIndex .station = some stationTx ∧
      ¬(State.reset.fullAt stationTx).roomAt stationTx := by
  unfold State.roomAt
  decide +kernel
theorem witness_CompletedFrameIsTheRow :
    ∀ payload ∈ [[0x09], 0x05 :: u16 65535, 0x06 :: u16 0, 0x01 :: u8 255],
      (receiving (.cell 3) (frameOf 0xE1 payload).dropLast).links.rx[rxIndex (.cell 3)].state =
          .inFrame (frameOf 0xE1 payload).dropLast ∧
        (frameOf 0xE1 payload).dropLast ++ [(frameOf 0xE1 payload).getLastD 0] =
          frameOf 0xE1 payload := by decide +kernel

/-- The frame of a sample set whose bytes are all 1, its last byte still to come. -/
def sampling : State := receiving .sample (frameOf 0x78 (List.replicate 30 1)).dropLast

/-- A whole sample set; a frame of a kind that suits neither port; a request at a full reply queue. -/
theorem witness_CompletedFrameIsTheRow_judged :
    (let payload : List Byte := List.replicate 30 1;
      let set : SampleSet := ⟨Vector.replicate 14 257, Vector.ofFn fun c => Nat.testBit 257 c.1⟩;
      payload.length = 30 ∧
        sampling.links.rx[rxIndex .sample].state = .inFrame (frameOf 0x78 payload).dropLast ∧
        (frameOf 0x78 payload).dropLast ++ [(frameOf 0x78 payload).getLastD 0] = frameOf 0x78 payload ∧
        (∀ c : Fin 14, set.readings[c] =
          256 * (payload.getD (2 * c.1) 0).toNat + (payload.getD (2 * c.1 + 1) 0).toNat) ∧
        ∀ c : Fin 14, set.valid[c] =
          (256 * (payload.getD 28 0).toNat + (payload.getD 29 0).toNat).testBit c.1) ∧
      (let bytes : List Byte := [0x5A, 0xD2, 1, 9, 0];
        (∀ p ∈ [Port.station, .sample],
          (receiving p bytes).links.rx[rxIndex p].state = .inFrame bytes) ∧ 3 ≤ bytes.length ∧
          5 + (bytes.getD 2 0).toNat = bytes.length + 1 ∧
          ∀ payload : List Byte, bytes ++ [0] ≠ frameOf 0xE1 payload ∧
            bytes ++ [0] ≠ frameOf 0x78 payload) ∧
      (let s := (State.reset.fullAt stationTx).onRx .station
          ⟨.inFrame (frameOf 0xE1 [0x09]).dropLast, .running 1, false, 0, 65535⟩;
        ¬s.roomAt stationTx ∧
          s.links.rx[rxIndex .station].state = .inFrame (frameOf 0xE1 [0x09]).dropLast) := by
  unfold State.roomAt
  refine ⟨by decide +kernel, ⟨by decide +kernel, by decide, by decide, fun payload => ?_⟩,
    by decide +kernel⟩
  constructor <;> simp [frameOf]
theorem test_sampleFrame_isTaken :
    let t := after (.receivedByte .sample
      ((frameOf 0x78 (List.replicate 30 1)).getLastD 0)) sampling;
    t.samples.lastSet.readings[(3 : Fin 14)] = 257 ∧ t.samples.lastSet.valid[(8 : Fin 14)] = true ∧
      t.samples.lastSet.valid[(7 : Fin 14)] = false := by decide +kernel

/-- Cell 3's port with a notice waiting, its link in a state. -/
def notifying (link : LinkState) : State :=
  let s := (hall 32).updateCell 3 fun x => { x with link := link };
  s.withLinks { s.links with notices := put s.links.notices 3 [.grant 100 0 .granted] }

theorem witness_FrameSent :
    txIndex (.cell 3) = some 3 ∧
      (State.reset.fullAt 3).links.tx[(3 : Fin 9)].replies =
        ⟨0x09, .accepted, []⟩ :: List.replicate 3 ⟨0x09, .accepted, []⟩ ∧
      ((notifying .linked).links.tx[(3 : Fin 9)].replies = [] ∧
        (notifying .linked).cells[(3 : Fin 8)].link = .linked ∧
        (notifying .linked).links.notices[(3 : Fin 8)] = [.grant 100 0 .granted]) ∧
      (notifying .lost).links.tx[(3 : Fin 9)].replies = [] ∧
      (notifying .lost).cells[(3 : Fin 8)].link ≠ .linked ∧
      State.reset.links.notices[(3 : Fin 8)] = [] := by decide +kernel
theorem witness_RequestsTheLinkRefuses :
    (isKnownCode 0x99 = false ∧ isKnownCode 0x0A = false ∧ State.reset.roomAt stationTx ∧
      State.reset.roomAt (cellTx 7)) ∧
      ((Instr.trunkRun (.cell 7)).requestCode = some 0x53 ∧
        (Instr.trunkRun (.cell 7)).requestPort = some (.cell 7) ∧ (0x53 : Byte) ∈ stationCodes) ∧
      (Instr.setHp .station 5).requestCode = some 0x06 ∧
      (Instr.setHp .station 5).requestPort = some .station ∧ (0x06 : Byte) ∈ cellCodes := by
  unfold State.roomAt
  decide +kernel
theorem witness_FullQueueDropsRequests :
    (Instr.query (.cell 3)).requestCode = some 0x09 ∧
      (Instr.query (.cell 3)).requestPort = some (.cell 3) ∧ txIndex (.cell 3) = some 3 ∧
      ¬(State.reset.fullAt 3).roomAt 3 := by
  unfold State.roomAt
  decide +kernel
theorem witness_CellRequestsInConfig :
    State.reset.roomAt (cellTx 3) ∧ State.reset.part = .config ∧
      (Instr.startJob (.cell 3) 5).requestCode = some 0x01 ∧
      (Instr.startJob (.cell 3) 5).requestPort = some (.cell 3) ∧ (0x01 : Byte) ∈ cellCodes := by
  unfold State.roomAt
  decide +kernel

/-- Cell 3 in a state with the job of profile 12 where `job`; profile 31 to start next. -/
def jobHall (st : CellState) (job : Bool) : State :=
  let s := ((hall 32).onCell 3 st (if job then some 12 else none) (jobFacts true)).onRecipe true;
  (s.onProfile 12 (profileOf (if job then some 3 else none))).onProfile 31 (profileOf none)

theorem witness_StartJobOnIdleCell :
    (∀ hp ∈ [true, false],
      let s := (jobHall .idle false).onRecipe hp;
      let p : Profile := { profileOf none with initial := ⟨5000, 3000, 0, 0, Vector.replicate 8 0⟩ };
      let s := s.onProfile 31 p;
      s.roomAt (cellTx 3) ∧ s.part = .operating ∧ s.cells[(3 : Fin 8)].state = .idle ∧
        s.profiles.profiles[(31 : Fin 64)] = some p ∧ p.owner = none ∧
        s.recipes.lookup p.group p.recipeIndex = some ⟨1, .crush, 2, 1, hp, 4⟩ ∧
        p.initial.flood ≤ s.cells[(3 : Fin 8)].config.floodMax ∧
        (if hp then p.initial.hp else 0) ≤ s.cells[(3 : Fin 8)].config.hpMax ∧
        s.openLot (.cell 3) = none) ∧
      (profileOf none).initial.flood = 0 ∧ (profileOf none).initial.hp = 0 := by
  unfold State.roomAt
  decide +kernel
theorem witness_StartJobNests :
    (let s := jobHall .running true;
      s.roomAt (cellTx 3) ∧ s.part = .operating ∧ s.cells[(3 : Fin 8)].state = .running ∧
        s.cells[(3 : Fin 8)].active = some 12 ∧ s.cells[(3 : Fin 8)].stack.length < 3 ∧
        s.profiles.profiles[(31 : Fin 64)] = some (profileOf none) ∧
        s.profiles.profiles[(12 : Fin 64)] = some (profileOf (some 3)) ∧
        s.recipes.lookup 0 0 = some ⟨1, .crush, 2, 1, true, 4⟩ ∧ s.openLot (.cell 3) = none) ∧
      (∀ st ∈ [CellState.disabled, .paused, .idle],
        (jobHall st false).roomAt (cellTx 3) ∧ (jobHall st false).part = .operating ∧
          (jobHall st false).cells[(3 : Fin 8)].state = st) ∧
      (jobHall .idle false).profiles.profiles[(63 : Fin 64)] = none ∧
      let s := (jobHall .running true).updateCell 3 fun x => { x with stack := [1, 2, 4] };
      s.roomAt (cellTx 3) ∧ s.part = .operating ∧ 3 ≤ s.cells[(3 : Fin 8)].stack.length := by
  unfold State.roomAt
  decide +kernel

/-- Cell 3 runs the job of profile 12 over a suspended job of profile 31, with a lot in a state. -/
def nested (lot : Option LotState) : State :=
  let s := (jobHall .running true).updateCell 3 fun x => { x with stack := [31] };
  let s := s.onProfile 31 (profileOf (some 3));
  match lot with
  | some st => s.onLot 4 (lotIn (.cell 3) 3 st)
  | none => s

theorem witness_EndJob :
    (let s := jobHall .running true;
      s.roomAt (cellTx 3) ∧ s.part = .operating ∧ s.hasJob 3 = true ∧ s.openLot (.cell 3) = none ∧
        s.cells[(3 : Fin 8)].active = some 12 ∧
        s.profiles.profiles[(12 : Fin 64)] = some (profileOf (some 3)) ∧
        s.cells[(3 : Fin 8)].stack = []) ∧
      (let s := nested none;
        s.roomAt (cellTx 3) ∧ s.part = .operating ∧ s.hasJob 3 = true ∧ s.openLot (.cell 3) = none ∧
          s.cells[(3 : Fin 8)].active = some 12 ∧ s.cells[(3 : Fin 8)].stack = [] ++ [31] ∧
          (31 : Fin 64) ≠ 12 ∧ s.profiles.profiles[(31 : Fin 64)] = some (profileOf (some 3))) ∧
      (jobHall .idle false).hasJob 3 = false ∧
      ((nested (some .loading)).openLot (.cell 3) = some (4, lotIn (.cell 3) 3 .loading) ∧
        (nested (some .loading)).hasJob 3 = true) ∧
      let s := (jobHall .running true).onLot 4 (lotIn (.cell 3) 3 .pending);
      s.hasJob 3 = true ∧ s.openLot (.cell 3) = some (4, lotIn (.cell 3) 3 .pending) ∧
        s.cells[(3 : Fin 8)].stack = [] := by
  unfold State.roomAt
  decide +kernel
theorem witness_PauseAndContinue :
    ∀ st ∈ [CellState.running, .paused, .idle, .disabled],
      (jobHall st true).roomAt (cellTx 3) ∧ (jobHall st true).part = .operating ∧
        (jobHall st true).cells[(3 : Fin 8)].state = st := by
  unfold State.roomAt
  decide +kernel

/-- Cell 3 with a job whose recipe permits HP or bars it, its grants at 700. -/
def granted (st : CellState) (hp fault : Bool) : State :=
  let s := (hall 32).onCell 3 st (some 12) (jobFacts hp);
  let s := (s.onValve 3 .hp ⟨700, 700, none, .stopped⟩).onValve 3 .flood ⟨700, 700, none, .stopped⟩;
  s.withGrants { s.grants with hpFault := fault }

theorem witness_SetCoolant :
    (∀ s ∈ [jobHall .idle false, granted .running false false, granted .running true true,
        granted .running true false, granted .paused true false],
      s.roomAt (cellTx 3) ∧ s.part = .operating) ∧
      (jobHall .idle false).hasJob 3 = false ∧
      ((granted .running false false).hasJob 3 = true ∧
        (granted .running false false).cells[(3 : Fin 8)].facts = some (jobFacts false) ∧
        (jobFacts false).hpPermitted = false) ∧
      ((granted .running true true).hasJob 3 = true ∧
        (granted .running true true).cells[(3 : Fin 8)].facts = some (jobFacts true) ∧
        (jobFacts true).hpPermitted = true ∧ (granted .running true true).grants.hpFault = true) ∧
      (granted .running true false).grants.hpFault = false ∧
      (granted .paused true false).cells[(3 : Fin 8)].state = .paused ∧
      (granted .paused true false).cells[(3 : Fin 8)].facts = some (jobFacts true) ∧
      (granted .running true false).cells[(3 : Fin 8)].state = .running ∧
      min 700 ((granted .running true false).cells[(3 : Fin 8)].config.bound .flood) ≤
        ((granted .running true false).valve 3 .flood).commanded ∧
      ((granted .running true false).valve 3 .hp).commanded <
        min 701 ((granted .running true false).cells[(3 : Fin 8)].config.bound .hp) := by
  unfold State.roomAt
  decide +kernel

/-- Cell 3 runs a job; its outlet as given, a lot of its own in a state. -/
def discharging (gate : GateState) (lot : Option LotState) : State :=
  let s := (jobHall .running true).onOutlet 3 ⟨gate, .stopped, false, 800⟩;
  match lot with
  | some st => s.onLot 4 (lotIn (.cell 3) 3 st)
  | none => s

/-- The same with every place of the lot table taken. -/
def crowded : State :=
  let s := discharging .closed none;
  s.withIntake { s.intake with lots := Vector.replicate 32 (some (lotIn (.cell 1) 1 .inTransit)) }

theorem witness_Discharge :
    (∀ s ∈ [discharging .closed none, discharging .fault none, crowded, jobHall .idle false,
        discharging .closed (some .pending)],
      s.roomAt (cellTx 3) ∧ s.part = .operating) ∧
      (jobHall .idle false).hasJob 3 = false ∧
      ((discharging .closed (some .pending)).hasJob 3 = true ∧
        (discharging .closed (some .pending)).openLot (.cell 3) ≠ none) ∧
      ((discharging .fault none).hasJob 3 = true ∧ (discharging .fault none).openLot (.cell 3) = none ∧
        (discharging .fault none).outlets[cellTx 3].gate = .fault) ∧
      (crowded.openLot (.cell 3) = none ∧ crowded.outlets[cellTx 3].gate ≠ .fault ∧
        ∀ i : Fin 32, crowded.intake.lots[i] ≠ none) ∧
      ((discharging .closed none).nextId = some 0 ∧ (discharging .closed none).intake.held = none ∧
        (discharging .closed none).cells[(3 : Fin 8)].facts = some (jobFacts true)) := by
  unfold State.roomAt
  decide +kernel

/-- Cell 3's lot 4 LOADING with `n` flights loaded so far. -/
def loading (n : Nat) : State :=
  (discharging .isOpen (some .loading)).onMap fun d =>
    if 12 ≤ d ∧ d < 12 + n then .loaded 4 else if 18 ≤ d ∧ d < 19 then .reserved 4 else .empty

theorem witness_DischargeEnd :
    (∀ s ∈ [loading 0, loading 1, discharging .closed none, discharging .closed (some .pending)],
      s.roomAt (cellTx 3) ∧ s.part = .operating) ∧
      (discharging .closed none).openLot (.cell 3) = none ∧
      (discharging .closed (some .pending)).openLot (.cell 3) =
        some (4, lotIn (.cell 3) 3 .pending) ∧
      (∀ s ∈ [loading 0, loading 1], s.openLot (.cell 3) = some (4, lotIn (.cell 3) 3 .loading)) ∧
      ((loading 0).withTrunk ((loading 0).trunk.cutLoading 4
        ((loading 0).outletOffset (cellTx 3)))).loadedCount 4 = 0 ∧
      0 < ((loading 2).withTrunk ((loading 2).trunk.cutLoading 4
        ((loading 2).outletOffset (cellTx 3)))).loadedCount 4 ∧
      (loading 2).cells[(3 : Fin 8)].active ≠ none := by
  unfold State.roomAt
  decide +kernel
/-- In CONFIG with cell 3 enabled at an offset, and cell 5 too at offset 20. -/
def planned (offset : Nat) : State :=
  let on (s : State) (c : Fin 8) (o : Nat) : State :=
    s.updateCell c fun x => { x with config := { x.config with enabled := true, outletOffset := o } };
  on (on State.reset 3 offset) 5 20

theorem witness_Commission :
    ((hall 32).roomAt stationTx ∧ (hall 32).part = .operating) ∧
      (State.reset.roomAt stationTx ∧ State.reset.part = .config ∧
        State.reset.offendingItem = some 4 ∧ State.reset.trunkOk = true ∧
        State.reset.trunk.config.carry < State.reset.trunk.config.beltLength ∧
        ∀ c : Fin 8, State.reset.cells[c].config.enabled = false) ∧
      ∀ o ∈ [5, 63],
        let s := planned o;
        s.roomAt stationTx ∧ s.part = .config ∧ s.trunkOk = true ∧
          s.trunk.config.carry < s.trunk.config.beltLength ∧
          s.cells[(3 : Fin 8)].config.enabled = true ∧
          (∀ c : Fin 8, s.cells[c].config.enabled = true →
            4 ≤ s.cells[c].config.outletOffset ∧
            s.cells[c].config.outletOffset < s.trunk.config.carry ∧
            s.cells[c].config.outletOffset ≠ s.trunk.config.flushOffset) ∧
          (∀ c d : Fin 8, s.cells[c].config.enabled = true → s.cells[d].config.enabled = true →
            c ≠ d → s.cells[c].config.outletOffset ≠ s.cells[d].config.outletOffset) ∧
          s.trunk.config.flushOffset < s.trunk.config.carry ∧ s.routing.position = .reject ∧
          s.trunk.flight 0 = .untracked ∧ s.inputs.routingSettled = false ∧
          (after (.routingSettledChange true) s).inputs.routingSettled = true := by
  unfold State.roomAt
  decide +kernel
theorem witness_Commission_map : ∀ d, (planned 5).trunk.flight d = .untracked := by
  intro d
  show (Vector.replicate 256 Flight.untracked)[_] = _
  simp
theorem witness_Decommission :
    (State.reset.roomAt stationTx ∧ State.reset.part = .config) ∧
      (∀ s ∈ [hall 32, jobHall .running true, (hall 32).onLot 4 (lotIn (.cell 1) 3 .inTransit),
          (hall 32).onUnit 2 .flushReady false 90, flushes false],
        s.roomAt stationTx ∧ s.part = .operating) ∧
      (jobHall .running true).hasJob 3 = true ∧
      ((hall 32).onLot 4 (lotIn (.cell 1) 3 .inTransit)).intake.lots[(4 : Fin 32)] ≠ none ∧
      ((hall 32).onUnit 2 .flushReady false 90).filter.units[(2 : Fin 6)].state = .flushReady ∧
      (flushes false).filter.units[(2 : Fin 6)].state = .flushing ∧
      (∀ c, (hall 32).hasJob c = false) ∧ (∀ i : Fin 32, (hall 32).intake.lots[i] = none) ∧
      ∀ u : Fin 6, (hall 32).filter.units[u].state ≠ .flushReady ∧
        (hall 32).filter.units[u].state ≠ .flushing := by
  unfold State.roomAt
  decide +kernel
theorem witness_Restart :
    (State.reset.roomAt stationTx ∧ State.reset.part = .config) ∧
      ((hall 32).roomAt stationTx ∧ (hall 32).part = .operating ∧
        (hall 32).crusher.residents = [] ∧ (hall 32).crusher.untracked = false) ∧
      ((resident 3 .inTransit).roomAt stationTx ∧ (resident 3 .inTransit).part = .operating ∧
        (resident 3 .inTransit).crusher.residents ≠ []) ∧
      (jobHall .running true).profiles.profiles[(12 : Fin 64)] = some (profileOf (some 3)) := by
  unfold State.roomAt
  decide +kernel
theorem witness_AlertRequests :
    (hall 32).finish.roomAt stationTx ∧ (hall 32).finish.flagsOk ∧
      (put (Vector.replicate 15 0) (14 : Fin 15) 2)[(14 : Fin 15)] = 2 ∧
      ∀ i : Fin 15, (Vector.replicate 15 1)[i] ≤ 1 := by
  refine ⟨by unfold State.roomAt; decide +kernel, ?_, by decide, by decide⟩
  intro a
  cases a <;> decide +kernel
theorem witness_ConfigurationWrites :
    ((hall 32).roomAt stationTx ∧ (hall 32).part = .operating) ∧
      (State.reset.roomAt stationTx ∧ State.reset.part = .config) ∧
      (trunkConfigOk ⟨16, 40, 2, 1, 4, 0, 0, 1, 5, 200⟩ = true ∧
        trunkConfigOk ⟨192, 600, 4, 8, 191, 3, 65535, 20, 200, 5000⟩ = true ∧
        trunkConfigOk ⟨193, 600, 4, 8, 191, 3, 65535, 20, 200, 5000⟩ = false) ∧
      (supplyConfigOk ⟨200, 0, 1000⟩ = true ∧ supplyConfigOk ⟨199, 0, 1000⟩ = false) ∧
      ((sensorConfigOf ⟨Vector.replicate 14 ⟨0, 1000⟩, 500, 10, 10, 1, 0⟩).isSome = true ∧
        sensorConfigOf ⟨Vector.replicate 14 ⟨0, 1000⟩, 500, 10, 10, 2, 0⟩ = none) ∧
      (tankConfigOk ⟨1, 10000, 400000, 400000, 0, 60, 5000⟩ = true ∧
        tankConfigOk ⟨1, 10000, 399999, 400000, 0, 60, 5000⟩ = false) ∧
      deliveryConfigOk Delivery.powerOn = true ∧
      deliveryConfigOk { Delivery.powerOn with jamSets := 0 } = false := by
  unfold State.roomAt
  decide +kernel

/-- WRITE_CELL_CONFIG's record with a flag byte and an offset. -/
def cellWrite (enabled offset : Nat) : CellConfigWrite := ⟨enabled, offset, 800, 5000, 3000, 0, 2000⟩

/-- The record of `cellWrite` once taken. -/
def cellRecord (enabled : Bool) (offset : Nat) : CellConfig :=
  ⟨enabled, offset, 800, 5000, 3000, 0, 2000⟩

/-- Cell 3 with no job, enabled or not, its gate in a state and its line at a level. -/
def cellAt (enabled : Bool) (gate : GateState) (level : Bool) : State :=
  let s := (hall 32).updateCell 3 fun x => { x with
    config := cellRecord enabled 12, state := if enabled then .idle else .disabled };
  (s.onOutlet 3 ⟨gate, .stopped, false, 800⟩).gateLine 3 level

theorem witness_CellConfigWrites :
    (cellConfigOf (cellWrite 2 12) = none ∧ cellConfigOf (cellWrite 1 192) = none) ∧
      (cellConfigOf (cellWrite 1 4) = some (cellRecord true 4) ∧
        cellConfigOf (cellWrite 0 191) = some (cellRecord false 191)) ∧
      (∀ s ∈ [cellAt true .closed true, cellAt true .isOpen false, cellAt false .closed false,
          cellAt false .fault false, jobHall .running true],
        s.roomAt stationTx ∧ s.part = .operating) ∧
      (jobHall .running true).hasJob 3 = true ∧
      (∀ s ∈ [cellAt true .closed true, cellAt true .isOpen false, cellAt false .closed false],
        s.hasJob 3 = false) ∧
      ((cellAt true .isOpen false).outlets[cellTx 3].gate ≠ .closed ∧
        (cellAt true .isOpen false).cells[(3 : Fin 8)].config.enabled = true ∧
        (cellRecord false 12).enabled = false ∧
        (cellRecord true 13).outletOffset ≠
          (cellAt true .isOpen false).cells[(3 : Fin 8)].config.outletOffset) ∧
      ((cellAt true .closed true).outlets[cellTx 3].gate = .closed ∧
        (cellAt true .closed true).trunk.config.carry ≤ (cellRecord true 32).outletOffset ∧
        (cellRecord true 4).outletOffset = (cellAt true .closed true).trunk.config.flushOffset ∧
        (cellRecord true 31).outletOffset < (cellAt true .closed true).trunk.config.carry ∧
        (cellRecord true 31).outletOffset ≠ (cellAt true .closed true).trunk.config.flushOffset ∧
        ∀ d : Fin 8, d ≠ 3 → (cellAt true .closed true).cells[d].config.enabled = false) ∧
      ((cellAt false .closed false).cells[(3 : Fin 8)].config.enabled = false ∧
        (cellAt false .closed false).outlets[cellTx 3].gate ≠ .fault ∧
        (cellAt false .closed false).inputs.gateClosed[cellTx 3] = false) ∧
      (cellAt false .fault false).outlets[cellTx 3].gate = .fault ∧ State.reset.part = .config := by
  unfold State.roomAt
  decide +kernel
theorem witness_FilterConfigWrites :
    (unitConfigOk ⟨65535, 1000, 1000, 1000, 900⟩ = true ∧
      unitConfigOk ⟨65535, 1000, 1000, 1000, 901⟩ = false) ∧
      (sludgeSettingsOk ⟨8, 65535, 5000⟩ = true ∧ sludgeSettingsOk ⟨9, 0, 100⟩ = false) ∧
      (∀ s ∈ [hall 32, flushes false], s.roomAt stationTx ∧ s.part = .operating) ∧
      (flushes false).filter.units[(2 : Fin 6)].state ≠ .offline ∧
      (hall 32).filter.units[(2 : Fin 6)].state = .offline ∧ (flushes false).filter.slot ≠ none ∧
      (flushes false).filter.begun[(7 : Fin 32)] = true ∧ (hall 32).filter.slot = none ∧
      ∀ i : Fin 32, (hall 32).filter.begun[i] = false := by
  unfold State.roomAt
  decide +kernel
theorem witness_RecipeStoreWrites :
    ((hall 32).roomAt stationTx ∧ (hall 32).part = .operating) ∧
      (State.reset.roomAt stationTx ∧ State.reset.part = .config) ∧
      (15 < 16 ∧ 127 < 128 ∧ 32 < 33 ∧ 128 < 97 + 32) ∧ (96 ≤ 127 ∧ 32 ≤ 32 ∧ 96 + 32 ≤ 128) ∧
      let c : RecipeWrite := ⟨3, 1, 15, 7, 1, 16⟩;
      c.bin = (3 : Fin 4).1 ∧ c.mode ≤ 1 ∧ c.purge ≤ 15 ∧ 1 ≤ c.jamAllowance ∧
        c.jamAllowance ≤ 7 ∧ c.hpPermitted ≤ 1 ∧ 1 ≤ c.maxFlights ∧ c.maxFlights ≤ 16 := by
  unfold State.roomAt
  decide +kernel

/-- Profile 12 defined, owned or not, with an extent at addresses 100 to 110. -/
def stored (owner : Option (Fin 8)) : State :=
  let s := State.reset.onProfile 12 (profileOf owner);
  s.withProfiles { s.profiles with
    extents := put s.profiles.extents 12 (some ⟨100, 110⟩), memory := [(511, 3)] }

theorem witness_PresetWrites :
    (∀ s ∈ [State.reset, stored none], s.roomAt stationTx ∧ s.memoryOk = true) ∧
      (512 < 511 + ([1, 2] : List Byte).length ∧ 44 < (List.replicate 45 (0 : Byte)).length) ∧
      (([7] : List Byte) ≠ [] ∧ ([7] : List Byte).length ≤ 44 ∧ 511 ≤ 511 ∧
        511 + ([7] : List Byte).length ≤ 512) ∧
      ((stored none).profiles.extents[(12 : Fin 64)] = some ⟨100, 110⟩ ∧
        1 < ([1, 2] : List Byte).length ∧ 100 ≤ 99 + 1 ∧ 99 + 1 ≤ 110) ∧
      (∀ p : Fin 64, ∀ e ∈ (stored none).profiles.extents[p], ∀ k < 1,
        ¬(e.first ≤ 111 + k ∧ 111 + k ≤ e.last)) := by
  unfold State.roomAt
  decide +kernel

/-- WRITE_PROFILE of group 15, recipe 31, priority 7, its preset start where it has one. -/
def profileWrite (presets start : Nat) : ProfileWrite :=
  ⟨15, 31, 7, 1, presets, start, 100, 0, Vector.replicate 8 0⟩

theorem witness_ProfileWrites :
    State.reset.roomAt stationTx ∧
      ((profileWrite 0 0).group = (15 : Fin 16).1 ∧ (profileWrite 0 0).recipeIndex ≤ 31 ∧
        (profileWrite 0 0).priority ≤ 7 ∧ (profileWrite 0 0).keep ≤ 1) ∧
      ((stored (some 3)).profiles.profiles[(12 : Fin 64)] = some (profileOf (some 3)) ∧
        (profileOf (some 3)).owner = some 3) ∧
      (State.reset.profiles.profiles[(12 : Fin 64)] = none ∧
        (stored none).profiles.profiles[(12 : Fin 64)] = some (profileOf none) ∧
        (profileOf none).owner = none) ∧
      (presetList (stored none).profiles.memory 511 = none ∧
        (presetList (stored none).profiles.memory 510).isSome = true ∧
        (presetList State.reset.profiles.memory 511).isSome = true) ∧
      (1 = 1 ∧ 511 < 512 ∧ 63 < 64) := by
  unfold State.roomAt
  decide +kernel
theorem witness_EraseProfile :
    State.reset.roomAt stationTx ∧ 63 < 64 ∧ (stored (some 3)).roomAt stationTx ∧
      (stored (some 3)).profiles.profiles[(12 : Fin 64)] = some (profileOf (some 3)) ∧
      State.reset.profiles.profiles[(12 : Fin 64)] = none := by
  unfold State.roomAt
  decide +kernel
theorem witness_FilterRequests :
    State.reset.part = .config ∧
      ∀ st ∈ [UnitState.offline, .online, .flushWait, .flushReady, .flushing, .fault],
        ((hall 32).onUnit 5 st false 90).roomAt stationTx ∧
          ((hall 32).onUnit 5 st false 90).part = .operating ∧
          ((hall 32).onUnit 5 st false 90).filter.units[(5 : Fin 6)].state = st := by
  unfold State.roomAt
  decide +kernel
theorem witness_BinRequests :
    (∀ st ∈ [BinState.inService, .full, .closing, .released, .absent, .presentWait],
      ((hall 32).onBin 4 ⟨st, 10, 20, false⟩).roomAt stationTx ∧
        ((hall 32).onBin 4 ⟨st, 10, 20, false⟩).bins[(4 : Fin 5)].state = st) ∧
      (16777215 < 16777216 ∧ 16777215 ≤ 16777215) := by
  unfold State.roomAt
  decide +kernel

/-- The crusher BLOCKED with lot 4 in it. -/
def blocked : State :=
  let s := resident 3 .inTransit;
  s.withCrusher { s.crusher with state := .blocked, drain := .paused 1 }

theorem witness_CrusherAndGateRequests :
    (State.reset.roomAt stationTx ∧ State.reset.part = .config) ∧
      ((hall 32).roomAt stationTx ∧ (hall 32).part = .operating ∧
        (hall 32).crusher.state ≠ .blocked) ∧
      (blocked.roomAt stationTx ∧ blocked.part = .operating ∧ blocked.crusher.state = .blocked) ∧
      ((gateAt .fault false).roomAt stationTx ∧
        (gateAt .fault false).outlets[(1 : Fin 9)].gate = .fault ∧
        (gateAt .fault false).inputs.gateClosed[(1 : Fin 9)] = false) ∧
      (gateAt .isOpen false).outlets[(1 : Fin 9)].gate ≠ .fault ∧
      ((gateAt .fault true).outlets[(1 : Fin 9)].gate = .fault ∧
        (gateAt .fault true).inputs.gateClosed[(1 : Fin 9)] = true) := by
  unfold State.roomAt
  decide +kernel
theorem witness_room : State.reset.roomAt stationTx ∧ (hall 32).roomAt stationTx := by
  unfold State.roomAt
  decide +kernel
theorem witness_MasksAndExceptions :
    (State.reset.roomAt stationTx ∧ State.reset.part = .config ∧ 1 < 2 ∧ 1 ≤ 1) ∧
      (Nat.testBit 15 0 = true ∧ Nat.testBit 15 1 = true ∧ Nat.testBit 15 3 = true ∧
        Nat.testBit 0 0 = false) := by
  unfold State.roomAt
  decide +kernel
theorem witness_ReadsCapture :
    State.reset.roomAt stationTx ∧
      (63 < State.reset.trunk.config.carry ∧ 63 + 1 ≤ State.reset.trunk.config.carry ∧
        State.reset.trunk.config.carry < 63 + 40 ∧ State.reset.trunk.config.carry ≤ 64) := by
  unfold State.roomAt
  decide +kernel

/-- The filter bank's image is held. -/
def imaged : State :=
  State.reset.withLinks { State.reset.links with
    image := some ⟨0x73, [], State.reset.filterContent⟩ }

theorem witness_ReadsServeSegments :
    imaged.roomAt stationTx ∧ imaged.links.image = some ⟨0x73, [], State.reset.filterContent⟩ ∧
      1 < (State.reset.filterContent.length + 42) / 43 ∧
      (State.reset.filterContent.length + 42) / 43 ≤ 255 ∧ State.reset.links.image = none := by
  unfold State.roomAt
  decide +kernel
theorem witness_OnBehalf :
    State.reset.roomAt stationTx ∧ isKnownCode 0x0A = false ∧ (0x53 : Byte) ∈ stationCodes ∧
      (jobHall .paused true).roomAt stationTx ∧ (jobHall .paused true).part = .operating ∧
      (jobHall .paused true).cells[(3 : Fin 8)].state = .paused ∧
      (jobHall .paused true).cells[(3 : Fin 8)].config.floodMax < 5001 := by
  unfold State.roomAt
  decide +kernel

/-! ### Steps of the spec's worked examples -/

/-- Section 1.4: the map wraps at index 256. -/
def wrapping : State :=
  let s := ((((hall 16).onCell 0 .running (some 0) (jobFacts true)).onCell 2 .running (some 2)
    (jobFacts true)).onLot 3 (lotIn (.cell 0) 3 .inTransit)).onLot 7 (lotIn (.cell 2) 3 .loading);
  let s := s.onMap fun i =>
    if i = 250 ∨ i = 251 then .loaded 3 else if i = 254 then .untracked
    else if 4 ≤ i ∧ i ≤ 6 then .reserved 7 else if i = 10 then .untracked else .empty;
  let s := s.withTrunk { s.trunk with
    head := 250, belt := 37
    config := { s.trunk.config with beltLength := 40, flushOffset := 14 } };
  let s := s.withCells (Vector.ofFn fun c : Fin 8 => { s.cells[c] with
    config := { s.cells[c].config with outletOffset := if c = 0 then 5 else 9 } });
  (s.onOutlet 2 ⟨.isOpen, .stopped, true, 800⟩).gateLine 2 false

theorem test_pitch_wraps :
    let t := after .pitchEvent wrapping;
    t.trunk.head = 251 ∧ t.trunk.belt = 38 ∧ t.trunk.flight 0 = .loaded 3 ∧
      t.trunk.flight 3 = .untracked ∧ t.trunk.flight 9 = .reserved 7 ∧
      t.trunk.flight 15 = .empty ∧ t.outlets[(2 : Fin 9)].gate = .isOpen := by decide +kernel
theorem test_pitch_loads :
    (after .pitchEvent (after .pitchEvent wrapping)).trunk.flight 8 = .loaded 7 := by decide +kernel

/-- Section 1.4: a reservation at the tail, one flight of lot 5 delivered. -/
def drifted (belt : Nat) : State :=
  let s := (hall 16).updateCell 6 fun x => { x with
    config := { x.config with enabled := true, outletOffset := 10 }, state := .running };
  let s := (s.onLot 5 { lotIn (.cell 1) 3 .inTransit with firstEntered := true }).onLot 9
    (lotIn (.cell 6) 2 .reserved);
  let s := (s.onMap fun i => if i = 40 ∨ i = 41 then .loaded 5 else if i = 46 then .untracked
    else if i = 54 ∨ i = 55 then .reserved 9 else .empty).onBin 1 ⟨.inService, 0, 100, false⟩;
  (s.withTrunk { s.trunk with
    head := 40, belt := belt, config := { s.trunk.config with beltLength := 40 } }).withCrusher
      { s.crusher with residents := [⟨5, 1, true, ⟨4, .crush⟩, false⟩], drain := .running 5000 }

theorem test_homeMark_ahead :
    let t := after .homeMark (drifted 1);
    t.trunk.head = 39 ∧ t.trunk.belt = 0 ∧ t.trunk.flight 0 = .untracked ∧
      t.trunk.flight 1 = .loaded 5 ∧ t.trunk.flight 7 = .untracked ∧ t.trunk.flight 15 = .empty ∧
      t.intake.lots[(9 : Fin 32)] = none ∧ t.bins[(1 : Fin 5)].committed = 50 := by decide +kernel
theorem test_homeMark_behind :
    let t := after .homeMark (drifted 39);
    t.trunk.head = 41 ∧ t.trunk.belt = 0 ∧ t.trunk.flight 0 = .loaded 5 := by decide +kernel

/-- Section 2.4: untracked material at the inlet, lots 4 and 11 on the trunk. -/
def window : State :=
  let s := ((hall 32).onCell 3 .running (some 3) (jobFacts true)).updateCell 3 fun x =>
    { x with config := { x.config with outletOffset := 12 } };
  let s := (s.onLot 4 { lotIn (.cell 1) 4 .inTransit with target := ⟨0, .crush⟩, purge := 3 }).onLot 11
    { lotIn (.cell 5) 3 .reserved with target := ⟨2, .bypass⟩, purge := 1 };
  let s := s.onMap fun d => if d = 0 then .untracked else if 6 ≤ d ∧ d ≤ 9 then .loaded 4
    else if 29 ≤ d ∧ d ≤ 31 then .reserved 11 else .empty;
  (s.onBin 1 ⟨.inService, 1500, 300, false⟩).withDelivery { s.delivery with
    capacity := put s.delivery.capacity 1 2000 }

theorem test_discharge_window :
    let t := after (.discharge (.cell 3) 3 100 1) window;
    (t.intake.lots[(0 : Fin 32)].map Lot.state = some .reserved) ∧
      (∀ d < 32, t.trunk.flight d = .reserved 0 ↔ 22 ≤ d ∧ d ≤ 24) ∧
      t.bins[(1 : Fin 5)].committed = 400 ∧ sent t 3 = some (0x07, .accepted) ∧
      t.links.notices[(3 : Fin 8)] = [.lot 0 .reserved false false false false] := by
  decide +kernel
theorem test_discharge_badFlag :
    sent (after (.discharge (.cell 3) 3 100 2) window) 3 = some (0x07, .refused .badValue) := by
  decide +kernel

/-- Section 4.4: the clean pair after some set, its tolerance 10, auto-clear on. -/
def clean (pair : Pair) : State :=
  let m := State.reset.samples;
  State.reset.withSamples { m with
    clean := pair, config := { m.config with cleanAutoClear := true } }

/-- A set with the clean probes at two readings. -/
def cleanSet (a b : Nat) : SampleSet :=
  ⟨put (put (Vector.replicate 14 0) 6 a) 7 b, Vector.replicate 14 true⟩

theorem test_pair_disagrees :
    (after (.sampleSet (cleanSet 1860 1835)) (clean ⟨.agree, 1850, false, .both, 0, false, 4⟩)).samples.clean
      = ⟨.disagree, 1835, false, .both, 0, true, 25⟩ := by decide +kernel
theorem test_pair_clears :
    (after (.sampleSet (cleanSet 1855 1850)) (clean ⟨.disagree, 1850, false, .both, 7, true, 25⟩)).samples.clean
      = ⟨.agree, 1852, false, .both, 0, true, 25⟩ := by decide +kernel

/-- Section 6.5: three primary and two polishing units in service, six cells with grants. -/
def worked : State :=
  let s := (hall 64).withBalance { (hall 64).balance with
    config := ⟨1200, 1500, 20000, 8000, 30000, 600, 200⟩ };
  let unit (i : Fin 6) : FilterUnit :=
    if i.1 < 4 then ⟨if i.1 = 3 then .offline else .online, false, false, .stopped,
      ⟨6000, 20, 120, 90, 120⟩⟩
    else ⟨.online, false, false, .stopped, ⟨1500, 30, 200, 170, 120⟩⟩;
  let s := (s.withFilter { s.filter with units := Vector.ofFn unit }).onCell 2 .running (some 2)
    (jobFacts true);
  let v (n : Nat) : Valve := ⟨n, n, none, .stopped⟩;
  s.withGrants { s.grants with
    valves := #v[⟨v 1200, v 900⟩, ⟨v 1200, v 0⟩, ⟨v 800, v 0⟩, ⟨v 800, v 0⟩, ⟨v 1500, v 1100⟩,
      ⟨v 600, v 0⟩, ⟨v 0, v 0⟩, ⟨v 0, v 0⟩] }

/-- The set of section 6.5. -/
def workedSet : SampleSet :=
  ⟨#v[20, 45, 70, 0, 30, 115, 1852, 1848, 2100, 2100, 0, 0, 500, 500], Vector.replicate 14 true⟩

theorem test_balance_worked :
    (after (.sampleSet workedSet) worked).balance.record =
      ⟨#v[6000, 4500, 3000, 0, 1500, 750], 13500, 2250, 22200, 31500, 2200, -1500, 700, 14200, 6100,
        2000, 6100, 250, false, true, false⟩ := by decide +kernel
theorem test_setHp_waits :
    let t := after (.setHp (.cell 2) 700) (after (.sampleSet workedSet) worked);
    sent t 2 = some (0x06, .waiting .polish) ∧ (t.valve 2 .hp).commanded = 0 ∧
      (t.valve 2 .hp).pending.map PendingRequest.value = some 700 := by decide +kernel

/-- Section 6.6: truncation toward zero, and a debt beyond every limit. -/
theorem test_balance_limits :
    (let s := State.reset.withBalance { State.reset.balance with
        config := ⟨1, 1, 7, 0, 400000, 1800, 200⟩ };
      (after (.clearExceptions .station 0) s).balance.record.cleanPart = -2) ∧
      let t := after (.clearExceptions .station 0) (tank 20000 1000);
      t.balance.record.credit = -65535 ∧ t.balance.record.total = 0 ∧
        t.balance.sticky = ⟨true, false, true, true⟩ := by decide +kernel

/-- Section 8.4: the list at address 100. -/
def listBytes : List Byte := [3, 0, 40, 40, 0, 2, 5, 255, 128, 0]

/-- The store with that list written and profile 12 naming it. -/
def listed : State :=
  after (.writeProfile .station 12 ⟨0, 0, 3, 0, 1, 100, 1000, 400, Vector.replicate 8 0⟩)
    (after (.writePresets .station 100 listBytes) State.reset)

theorem test_writeProfile_extent :
    listed.profiles.extents[(12 : Fin 64)] = some ⟨100, 109⟩ ∧
      listed.profiles.apply 100 (Vector.replicate 8 10) = #v[40, 40, 0, 10, 10, 255, 128, 10] ∧
      sent listed 8 = some (0x38, .accepted) := by decide +kernel
theorem test_writePresets_protected :
    (after (.writePresets .station 108 [1, 2, 3, 4]) listed).profiles = listed.profiles ∧
      Memory.read (after (.writePresets .station 110 [3, 6, 1, 2, 3]) listed).profiles.memory 110 = 3 := by
  decide +kernel
theorem test_writeProfile_badPreset :
    (after (.writeProfile .station 13 ⟨0, 0, 3, 0, 1, 110, 0, 0, Vector.replicate 8 0⟩)
      (after (.writePresets .station 110 [3, 6, 1, 2, 3]) listed)).profiles.profiles[(13 : Fin 64)] =
        none := by decide +kernel

/-- Section 9.9: cell 3 runs profile 12 at flood 1400, HP 400, profile 31 to start. -/
def nesting : State :=
  let s := (hall 32).onCell 3 .running (some 12) (jobFacts true);
  let s := s.withRecipes ⟨put s.recipes.groups 0 ⟨0, 2⟩,
    put (put s.recipes.recipes 0 ⟨1, .crush, 2, 1, true, 4⟩) 1 ⟨1, .crush, 2, 1, false, 4⟩⟩;
  let m := Memory.writeRun (Memory.writeRun [] 100 listBytes) 120 [2, 2, 90, 90, 0];
  let s := s.withProfiles { s.profiles with memory := m };
  let s := (s.onProfile 12 ⟨0, 0, 3, false, some 100, ⟨1000, 400, 5, 700, Vector.replicate 8 0⟩, .zero,
    false, some 3⟩).onProfile 31 ⟨0, 1, 3, true, some 120, ⟨600, 300, 0, 0, Vector.replicate 8 0⟩, .zero,
    false, none⟩;
  let s := s.updateCell 3 fun x => { x with
    working := ⟨1400, 400, 6, 820⟩, aux := #v[40, 40, 0, 0, 0, 255, 128, 0] };
  let s := (s.onValve 3 .flood ⟨1400, 1400, none, .stopped⟩).onValve 3 .hp ⟨400, 400, none, .stopped⟩;
  s.withFilter { s.filter with
    units := Vector.replicate 6 ⟨.online, false, false, .stopped, ⟨5000, 20, 120, 90, 120⟩⟩ }

theorem test_startJob_nests :
    let t := after (.startJob (.cell 3) 31) nesting;
    sent t 3 = some (0x01, .adjusted) ∧ t.cells[(3 : Fin 8)].active = some 31 ∧
      t.cells[(3 : Fin 8)].stack = [12] ∧ t.cells[(3 : Fin 8)].working = ⟨600, 0, 0, 0⟩ ∧
      t.cells[(3 : Fin 8)].aux = #v[40, 40, 90, 90, 0, 255, 128, 0] ∧
      (t.valve 3 .flood).commanded = 600 ∧ (t.valve 3 .flood).counted = 1400 ∧
      (t.valve 3 .hp).commanded = 0 ∧ (t.valve 3 .hp).counted = 400 := by decide +kernel
theorem test_endJob_resumes :
    let t := after (.endJob (.cell 3)) (after (.startJob (.cell 3) 31) nesting);
    t.cells[(3 : Fin 8)].active = some 12 ∧ t.cells[(3 : Fin 8)].stack = [] ∧
      t.cells[(3 : Fin 8)].working = ⟨1400, 400, 6, 820⟩ ∧
      t.cells[(3 : Fin 8)].aux = #v[40, 40, 0, 0, 0, 255, 128, 0] ∧
      (t.valve 3 .flood).commanded = 1400 ∧ (t.valve 3 .hp).commanded = 400 := by decide +kernel
theorem test_startJob_stackFull :
    sent (after (.startJob (.cell 3) 31)
      (nesting.updateCell 3 fun x => { x with stack := [1, 2, 4] })) 3 =
        some (0x01, .refused .stackFull) := by decide +kernel

/-! ### Frames -/

theorem test_byteCompletesQuery :
    let s := receiving (.cell 3) (frameOf 0xE1 [0x09]).dropLast;
    let t := after (.receivedByte (.cell 3) ((frameOf 0xE1 [0x09]).getLastD 0)) s;
    t.cells[(3 : Fin 8)].link = .linked ∧ sent t 3 = some (0x09, .accepted) ∧
      t.links.rx[rxIndex (.cell 3)] = ⟨.hunt, .stopped, false, 1, 65535⟩ := by decide +kernel
theorem test_badCrcDrops :
    let s := receiving .station [0x5A, 0xE1, 1, 0x09, 0];
    (after (.receivedByte .station 0) s).links.rx[rxIndex .station] = ⟨.hunt, .stopped, true, 0, 0⟩ := by
  decide +kernel
theorem test_wrongPort :
    sent (after (.trunkRun (.cell 3)) State.reset) 3 = some (0x53, .refused .authority) ∧
      sent (after (.query .station) State.reset) 8 = some (0x09, .refused .badValue) ∧
      sent (after (.unknownRequest .station 0x99) State.reset) 8 =
        some (0x99, .refused .unknownRequest) := by decide +kernel
theorem test_noticeFollowsReply :
    let t := after (.discharge (.cell 3) 3 100 1) window;
    (after (.frameSent (.cell 3)) t).links.tx[(3 : Fin 9)].sending =
      some (.notice (.lot 0 .reserved false false false false)) := by decide +kernel
theorem test_restart_releases :
    let t := after (.restart .station) nesting;
    t.cells[(3 : Fin 8)].state = .idle ∧ (t.valve 3 .flood) = ⟨0, 0, none, .stopped⟩ ∧
      t.profiles.profiles[(12 : Fin 64)].map Profile.owner = some none := by decide +kernel
theorem test_jam_reverses :
    let t := after (.sampleSet (setOf 0 10 100 true)) (jamming 1 2 true);
    t.crusher.state = .reversing ∧ t.crusher.allowance = 1 ∧ t.outputs.crusherReverse = true ∧
      t.trunk.halt.jam = true := by decide +kernel
theorem test_overload_halts :
    let s := hall 32;
    let t := after (.sampleSet (setOf 0 11 65535 true)) (s.withTrunk { s.trunk with overloadCount := 2 });
    t.trunk.halt.overload = true ∧ t.outputs.conveyorRun = false := by decide +kernel

/-! ### Witnesses for the clauses of the larger statements -/

/-- A hall with a cell's job, its outlet 3 (offset 15) as given, two lots of other cells or its own, and
a flight of lot 4 or 6 where `f` puts one. -/
def pitching (gate : GateState) (l4 l6 : Option Lot) (f : Nat → Flight) : State :=
  let s := ((jobHall .running true).onOutlet 3 ⟨gate, .stopped, true, 800⟩).onMap f;
  s.withIntake { s.intake with lots := put (put s.intake.lots 4 l4) 6 l6 }

/-- One flight at one offset. -/
def oneAt (d : Nat) (x : Flight) : Nat → Flight := fun e => if e = d then x else .empty

/-- What `PitchDelivers` asks: each flight at the inlet, a lot new to the crusher and one in it, purge
counts 1 and 0. -/
theorem witness_PitchInOperating_delivers :
    let lot (purge : Nat) : Option Lot := some { lotIn (.cell 1) 3 .inTransit with purge := purge };
    let s := pitching .closed (lot 1) none (oneAt 0 (.loaded 4));
    let u := s.withCrusher { s.crusher with residents := [⟨4, 1, true, ⟨1, .crush⟩, false⟩] };
    let v := pitching .closed (lot 0) none (oneAt 0 (.loaded 4));
    (∀ x ∈ [s, u, v], x.part = .operating ∧ premises x = true ∧ x.trunk.flight 0 = .loaded 4) ∧
      (s.intake.lots[(4 : Fin 32)] = lot 1 ∧ u.intake.lots[(4 : Fin 32)] = lot 1 ∧ 0 < 1) ∧
      (∀ r ∈ s.crusher.residents, r.lot ≠ 4) ∧ (∃ r ∈ u.crusher.residents, r.lot = 4) ∧
      (v.intake.lots[(4 : Fin 32)] = lot 0 ∧ v.crusher.state = .running) ∧
      (pitching .closed none none (oneAt 0 .untracked)).trunk.flight 0 = .untracked ∧
      (pitching .closed none none (oneAt 1 .untracked)).trunk.flight 0 = .empty := by decide +kernel
theorem witness_drainsLater :
    (pitching .closed (some { lotIn (.cell 1) 3 .inTransit with purge := 1 }) none
      (oneAt 0 (.loaded 4))).drainsLater := by
  intro _ x l h0 hl
  have h : (pitching .closed (some { lotIn (.cell 1) 3 .inTransit with purge := 1 }) none
      (oneAt 0 (.loaded 4))).trunk.flight 0 = .loaded 4 := by decide +kernel
  obtain rfl : (4 : Fin 32) = x := by simpa [h] using h0
  have h : (pitching .closed (some { lotIn (.cell 1) 3 .inTransit with purge := 1 }) none
      (oneAt 0 (.loaded 4))).intake.lots[(4 : Fin 32)] =
        some { lotIn (.cell 1) 3 .inTransit with purge := 1 } := by decide +kernel
  obtain rfl : _ = l := by simpa [h] using hl
  decide
theorem witness_PitchInOperating_moves :
    (∀ f ∈ [(Flight.untracked, lotIn (.cell 1) 3 .inTransit), (.loaded 4, lotIn (.cell 1) 3 .inTransit),
        (.reserved 4, lotIn (.cell 3) 3 .reserved)],
      let s := pitching .closed (some f.2) none (oneAt 31 f.1);
      s.part = .operating ∧ premises s = true ∧ 30 + 1 < s.trunk.config.carry ∧
        s.trunk.flight (30 + 1) = f.1 ∧ s.intake.lots[(4 : Fin 32)] = some f.2) ∧
      (∀ d ∈ [14, 15],
        let s := pitching .isOpen (some (lotIn (.cell 3) 3 .loading)) none (oneAt (d + 1) (.reserved 4));
        premises s = true ∧ d + 1 < s.trunk.config.carry ∧ s.trunk.flight (d + 1) = .reserved 4 ∧
          s.intake.lots[(4 : Fin 32)] = some (lotIn (.cell 3) 3 .loading) ∧
          s.outlets[(3 : Fin 9)].gate = .isOpen ∧ s.outletOffset 3 = 15) ∧
      (let s := pitching .closing none none (oneAt 31 .untracked);
        premises s = true ∧ s.trunk.flight (14 + 1) = .empty ∧ s.spillsAt 3 ∧
          s.outletOffset 3 = 14 + 1) ∧
      let s := pitching .closed (some (lotIn (.cell 1) 3 .inTransit)) none (oneAt 20 (.loaded 4));
      premises s = true ∧ s.trunk.flight (14 + 1) = .empty ∧ 31 + 1 = s.trunk.config.carry ∧
        (∀ o, ¬s.spillsAt o) ∧ s.intake.held = none ∧
        (∀ i : Fin 32, ∀ l ∈ s.intake.lots[i], l.state ≠ .pending) ∧
        ∀ u : Fin 6, s.filter.units[u].state ≠ .flushWait := by
  unfold State.spillsAt
  decide +kernel

/-- Sludge lot 4 LOADING at the flush outlet (offset 4), its last flight there; a request held or not,
the table full or not. -/
def sludging (held : Option SludgeRequest) (full : Bool) : State :=
  let s := ((hall 32).onOutlet 8 ⟨.isOpen, .stopped, true, 800⟩).onMap (oneAt 4 (.reserved 4));
  (s.withIntake { s.intake with
    lots := put (if full then Vector.replicate 32 (some (lotIn (.cell 1) 1 .inTransit))
      else s.intake.lots) 4 (some (lotIn .flush 2 .loading))
    held := held }).withFilter { s.filter with begun := put s.filter.begun 4 true }

/-- What `PitchLoads.completesFlush` and `PitchLoads.uncounted` ask. -/
theorem witness_PitchInOperating_sludge :
    (∀ x ∈ [(none, false), (some ⟨2, 80⟩, false), (some ⟨2, 80⟩, true)],
      let s := sludging x.1 x.2;
      s.part = .operating ∧ premises s = true ∧ s.outlets[(8 : Fin 9)].gate = .isOpen ∧
        s.openLot .flush = some (4, lotIn .flush 2 .loading) ∧ 1 ≤ s.trunk.config.flushOffset ∧
        s.trunk.config.flushOffset < s.trunk.config.carry ∧
        s.trunk.flight s.trunk.config.flushOffset = .reserved 4 ∧
        (∀ d < s.trunk.config.carry, d ≠ s.trunk.config.flushOffset →
          s.trunk.flight d ≠ .reserved 4) ∧
        (∀ u : Fin 6, s.filter.units[u].state ≠ .flushWait) ∧ s.trunk.flight 0 = .empty ∧
        s.intake.held = x.1) ∧
      (sludging none false).intake.lots[(0 : Fin 32)] = none ∧
      (∀ i : Fin 32, (sludging none true).intake.lots[i] ≠ none) ∧
      (sludging none false).openLot (.cell 3) = none := by decide +kernel
theorem test_pitch_sludgeCompletes :
    let t := after .pitchEvent (sludging (some ⟨2, 80⟩) false);
    t.intake.lots[(4 : Fin 32)].map Lot.state = some .inTransit ∧ t.intake.held = none ∧
      t.intake.lots[(0 : Fin 32)].map Lot.source = some .flush ∧
      t.outlets[(8 : Fin 9)].gate ≠ .fault := by decide +kernel

/-- What `PitchLoads` asks of cell 3's lot at its outlet. -/
theorem witness_PitchInOperating_loads :
    let mine (st : LotState) : Option Lot := some (lotIn (.cell 3) 3 st);
    let two : Nat → Flight := fun d => if d = 15 ∨ d = 31 then .reserved 4 else .empty;
    (∀ g ∈ [GateState.closed, .closing],
      let s := pitching g (mine .reserved) none (oneAt 18 (.reserved 4));
      s.part = .operating ∧ premises s = true ∧ s.outletInUse 3 = true ∧ s.outlets[(3 : Fin 9)].gate = g ∧
        s.openLot (outletSource 3) = some (4, lotIn (.cell 3) 3 .reserved) ∧
        (s.trunk.lotOffsets 4).head? = some 18 ∧ 18 = s.outletOffset 3 + s.trunk.config.gateLead + 1) ∧
      (∀ f ∈ [oneAt 15 (.reserved 4), two],
        let s := pitching .isOpen (mine .loading) none f;
        s.part = .operating ∧ premises s = true ∧ s.outlets[(3 : Fin 9)].gate = .isOpen ∧
          s.openLot (outletSource 3) = some (4, lotIn (.cell 3) 3 .loading) ∧
          1 ≤ s.outletOffset 3 ∧ s.outletOffset 3 < s.trunk.config.carry ∧
          s.trunk.flight (s.outletOffset 3) = .reserved 4 ∧ s.cells[(3 : Fin 8)].active ≠ none) ∧
      (let s := pitching .isOpen (mine .loading) none two;
        31 < s.trunk.config.carry ∧ 31 ≠ s.outletOffset 3 ∧ s.trunk.flight 31 = .reserved 4) ∧
      (let s := pitching .isOpen (mine .loading) none (oneAt 15 (.reserved 4));
        s.cells[(3 : Fin 8)].config.enabled = true ∧
          (∀ d < s.trunk.config.carry, 1 ≤ d → d ≠ s.outletOffset 3 →
            s.trunk.flight d ≠ .reserved 4) ∧
          (∀ i : Fin 32, i ≠ 4 → s.intake.lots[i] = none) ∧ s.trunk.flight 0 = .empty) ∧
      let s := pitching .closed (some (lotIn (.cell 1) 3 .inTransit)) none (oneAt 20 (.loaded 4));
      (∀ o : Fin 9, s.outlets[o].gate = .closed) ∧ s.intake.held = none ∧ s.trunk.flight 0 = .empty ∧
        (∀ i : Fin 32, ∀ l ∈ s.intake.lots[i], l.state ≠ .reserved ∧ l.state ≠ .pending) ∧
        premises s = true ∧ ∀ u : Fin 6, s.filter.units[u].state ≠ .flushWait := by decide +kernel

/-- Cell 1's lot 4 at the spilling outlet 3, lot 6 over the clear count from it. -/
def spilling (gate : GateState) (lot : Lot) (d : Nat) : State :=
  pitching gate (some lot) (some (lotIn (.cell 5) 1 .inTransit)) fun e =>
    if e = 15 then .loaded 4 else if e = d then .loaded 6 else .empty

theorem witness_PitchInOperating_spills :
    let other : Lot := lotIn (.cell 1) 1 .inTransit;
    (∀ g ∈ [GateState.closing, .fault],
      let s := pitching g none none (oneAt 31 .untracked);
      premises s = true ∧ s.spillsAt 3 ∧ 1 ≤ s.outletOffset 3 ∧ s.outletOffset 3 < s.trunk.config.carry ∧
        s.trunk.flight (s.outletOffset 3) = .empty) ∧
      (∀ l ∈ [other, { other with mixed := true }, { other with firstEntered := true }],
        let s := spilling .closing l 20;
        s.part = .operating ∧ premises s = true ∧ s.spillsAt 3 ∧ 1 ≤ s.outletOffset 3 ∧
          s.outletOffset 3 < s.trunk.config.carry ∧ s.trunk.flight 0 = .empty ∧
          s.trunk.flight (s.outletOffset 3) = .loaded 4 ∧ s.intake.lots[(4 : Fin 32)] = some l ∧
          l.source ≠ outletSource 3) ∧
      (let s := spilling .closed other 20; premises s = true ∧ ∀ o, ¬s.spillsAt o) ∧
      ∀ d ∈ [20, 10],
        let s := spilling .closing other d;
        let t := after .pitchEvent s;
        (s.intake.lots[(6 : Fin 32)] = some (lotIn (.cell 5) 1 .inTransit) ∧
          t.intake.lots[(4 : Fin 32)] =
            some { other with mixed := true, spilledInto := true, target := ⟨4, .crush⟩ } ∧
          t.intake.lots[(6 : Fin 32)] = some (lotIn (.cell 5) 1 .inTransit) ∧
          (lotIn (.cell 5) 1 .inTransit).target ≠ ⟨4, .crush⟩) ∧
        t.trunk.lotOffsets 4 = [14] ∧ t.trunk.lotOffsets 6 = [d - 1] ∧
        other.purge + s.trunk.config.routingLead = 4 ∧
        t.trunk.clearCount (min 14 (d - 1)) (max 14 (d - 1)) = 4 := by
  unfold State.spillsAt
  decide +kernel
/-- A jam at the next set with lot 4 the last through the crusher, `n` jams allowed it. -/
def jamOf (n : Nat) (st : CrusherState) : State :=
  let s := (jamming 1 3 false).onLot 4 { lotIn (.cell 1) 3 .inTransit with jamAllowance := n };
  s.withCrusher { s.crusher with
    state := st, residents := [⟨4, 3, true, ⟨1, .crush⟩, false⟩, ⟨6, 1, false, ⟨1, .crush⟩, false⟩] }

theorem witness_SampleSetDetectsJam_lot :
    (∀ n ∈ [1, 2], ∀ st ∈ [CrusherState.running, .probing],
      (jamOf n st).part = .operating ∧ (jamOf n st).crusher.state = st ∧
        (jamOf n st).crusher.residents =
          [] ++ ⟨4, 3, true, ⟨1, .crush⟩, false⟩ :: [⟨6, 1, false, ⟨1, .crush⟩, false⟩] ∧
        (jamOf n st).intake.lots[(4 : Fin 32)] =
          some { lotIn (.cell 1) 3 .inTransit with jamAllowance := n } ∧
        (jamOf n st).delivery.jamSets ≤ (jamOf n st).crusher.jamCount + 1 ∧
        (after (.sampleSet (setOf 0 10 100 true)) (jamOf n st)).samples.channels[(10 : Fin 14)] =
          ⟨(jamOf n st).delivery.jamThreshold, false, .inRange⟩) ∧
      (jamOf 1 .reversing).crusher.state = .reversing ∧ (jamOf 1 .blocked).crusher.state = .blocked := by
  decide +kernel

/-- Header limits 50, HP and flood grants as given, `n` sets below each limit so far. -/
def headers (grant n : Nat) : State :=
  let s := ((hall 32).onValve 3 .hp ⟨grant, grant, none, .stopped⟩).onValve 4 .flood
    ⟨grant, grant, none, .stopped⟩;
  s.withGrants { s.grants with supply := ⟨1500, 50, 50⟩, hpCount := n, floodCount := n }

theorem witness_SampleSetExaminesHeaders :
    (headers 1 4).part = .operating ∧ (headers 1 4).requestsOk ∧
      (∀ k : Fin 2, let c : Fin 14 := if k = 0 then 12 else 13;
        (after (.sampleSet (setOf 50 c 49 false)) (headers 1 4)).samples.channels[c].held = true ∧
        (after (.sampleSet (setOf 50 c 49 true)) (headers 1 4)).samples.channels[c] =
          ⟨49, false, .inRange⟩ ∧
        (after (.sampleSet (setOf 49 c 50 true)) (headers 1 4)).samples.channels[c] =
          ⟨50, false, .inRange⟩) ∧
      (0 < ((headers 1 4).valve 3 .hp).commanded ∧ 0 < ((headers 1 4).valve 4 .flood).commanded) ∧
      (∀ c, ((headers 0 4).valve c .hp).commanded = 0 ∧ ((headers 0 4).valve c .flood).commanded = 0) ∧
      ((headers 1 4).grants.hpFault = false ∧
        (after (.sampleSet (setOf 49 0 0 true)) (headers 1 4)).grants.hpFault = true ∧
        ∀ u : Fin 6, (headers 1 4).filter.units[u].state = .offline) := by
  unfold State.requestsOk
  refine ⟨by decide +kernel, fun c k p h => ?_, by decide +kernel⟩
  have none : ∀ c : Fin 8, ∀ k ∈ [ValveKind.flood, .hp],
      ((headers 1 4).valve c k).pending = none := by decide +kernel
  simp [none c k (by cases k <;> simp)] at h

/-- Units 0 and 4 ONLINE with their rated flows, the flush threshold of unit 0 at 90, HP and flood
grants of cell 3, its link LINKED. -/
def supplied (primary polish : Nat) (forced : Bool) (flood hp : Valve) : State :=
  let s := (jobHall .running true).withFilter { (jobHall .running true).filter with
    units := put (put (hall 32).filter.units 0
      ⟨if forced then .flushWait else .online, forced, false, .stopped, ⟨primary, 20, 120, 90, 120⟩⟩) 4
      ⟨.online, false, false, .stopped, ⟨polish, 30, 200, 170, 120⟩⟩ };
  (s.onValve 3 .flood flood).onValve 3 .hp hp

/-- A valve at a grant, counted as commanded, with a request where it has one. -/
def valveAt (n : Nat) (p : Option PendingRequest) : Valve := ⟨n, n, p, .stopped⟩

/-- Selection: no unit waits; a forced unit and one at dp_max are exempt; the check passes with
nothing left over, fails one L/min short, and is not made in HOLD. -/
theorem witness_SampleSetExaminesUnits_selection :
    let idle := supplied 100 50 false (valveAt 0 none) (valveAt 0 none);
    let hold := idle.withBalance { idle.balance with
      sticky := ⟨false, true, false, false⟩, hold := true };
    let short := supplied 100 50 false (valveAt 1 none) (valveAt 0 none);
    let forced := supplied 100 50 true (valveAt 0 none) (valveAt 0 none);
    let taken := forced.onLot 4 (lotIn .flush 2 .pending);
    let full := forced.withIntake { forced.intake with
      lots := Vector.replicate 32 (some (lotIn (.cell 1) 1 .inTransit)) };
    let outcome (s : State) (dp : Nat) : Option CheckOutcome :=
      (after (.sampleSet (setOf 0 0 dp true)) s).filter.lastCheck.map LastCheck.outcome;
    (∀ s ∈ [idle, hold, short, forced, taken, full], s.part = .operating ∧ s.filter.slot = none) ∧
      outcome idle 89 = none ∧ outcome idle 90 = some .passed ∧ outcome idle 119 = some .passed ∧
      outcome idle 120 = some .exempt ∧ outcome forced 0 = some .exempt ∧
      outcome short 90 = some .failed ∧ outcome hold 90 = some .hold ∧
      (idle.openLot .flush = none ∧ idle.intake.lots[(0 : Fin 32)] = none) ∧
      taken.openLot .flush ≠ none ∧ ∀ i : Fin 32, full.intake.lots[i] ≠ none := by decide +kernel

/-- What the clauses on the headroom check ask: figures that stand; a check passed with the flush begun
and not begun, an exempt unit left FLUSH_READY, every figure below 0, and HOLD. -/
theorem witness_SampleSetExaminesUnits_checked :
    let idle := supplied 100 50 false (valveAt 0 none) (valveAt 0 none);
    let hold := idle.withBalance { idle.balance with
      sticky := ⟨false, true, false, false⟩, hold := true };
    let short := supplied 100 50 false (valveAt 1 none) (valveAt 0 none);
    let kept := idle.onLot 4 (lotIn .flush 2 .pending);
    let exempt := (supplied 100 50 true (valveAt 0 none) (valveAt 0 none)).onLot 4
      (lotIn .flush 2 .pending);
    let next (s : State) : State := after (.sampleSet (setOf 0 0 90 true)) s;
    (∀ s ∈ [idle, hold, short, kept, exempt], s.part = .operating ∧ s.filter.slot = none ∧
        s.figuresStand ∧ waitsForFlush s (next s) 0) ∧
      ((next idle).filter.lastCheck.map LastCheck.outcome = some .passed ∧
        (next idle).filter.units[(0 : Fin 6)].state = .flushing) ∧
      ((next kept).filter.lastCheck.map LastCheck.outcome = some .passed ∧
        (next kept).filter.units[(0 : Fin 6)].state = .flushReady) ∧
      ((next exempt).filter.lastCheck.map LastCheck.outcome = some .exempt ∧
        (next exempt).filter.units[(0 : Fin 6)].state = .flushReady) ∧
      (∀ u, waitsForFlush short (next short) u → flushGroupOf short (next short) u = 2 ∧
        checkFigure (next short) u < 0) ∧
      (∀ u, waitsForFlush hold (next hold) u → flushGroupOf hold (next hold) u = 2) ∧
      (next hold).balance.hold = true := by
  have all (P : Fin 8 → ValveKind → Prop) : (∀ c k, P c k) ↔ ∀ c, P c .flood ∧ P c .hp :=
    ⟨fun h c => ⟨h c _, h c _⟩, fun h c k => by cases k <;> simp [h c]⟩
  unfold State.figuresStand waitsForFlush checkFigure
  simp only [all]
  decide +kernel

/-- A request for a value, of a kind that is one L/min above it or more. -/
def asks (value stamp : Nat) : Option PendingRequest := some ⟨value, stamp, .request, .total⟩

/-- The margin set to 10, the low-low limit as given, the arbiter's shed state and stamp as given. -/
def arbitrating (s : State) (vLow vLowLow : Nat) (lowlow : Bool) (shed : Shed) : State :=
  (s.withBalance { s.balance with
    config := ⟨1000, 1000, vLow, vLowLow, 400000, 600, 10⟩ }).withGrants
      { s.grants with lowlow := lowlow, shed := shed, stamp := 7 }

/-- The shed operation at rest. -/
def shedIdle : Shed := ⟨.idle, 0, none, .stopped⟩

/-- A shed step of cell 3's HP valve that settles. -/
def shedSettling : Shed := ⟨.settling, 2, some ⟨3, .hp, .b, 30, 0⟩, .running 0⟩

/-- The arbiter of a hall with 100 L/min of primary and 50 of polishing supply, cell 3's valves and
the shed state as given; the clean tank below the low limit where `low` is set. -/
def arbiter (flood hp : Valve) (shed : Shed) (low lowlow : Bool) : State :=
  arbitrating (supplied 100 50 false flood hp) (if low then 1 else 0) (if low then 1 else 0) lowlow shed

/-- The same in HOLD. -/
def arbiterHeld (flood hp : Valve) : State :=
  (arbiter flood hp shedIdle false false).withBalance
    { (arbiter flood hp shedIdle false false).balance with
      sticky := ⟨false, true, false, false⟩, hold := true }

/-- States the handling of a result starts from. -/
def handled : List State :=
  [arbiter (valveAt 20 (asks 30 1)) (valveAt 20 (asks 40 2)) shedIdle false false,
    arbiter (valveAt 20 (asks 90 2)) (valveAt 20 (asks 40 1)) shedIdle false false,
    arbiter (valveAt 0 none) (valveAt 0 (asks 51 1)) shedIdle false false,
    arbiter (valveAt 80 none) (valveAt 0 (asks 11 1)) shedIdle false false,
    arbiter (valveAt 81 none) (valveAt 20 none) shedIdle false false,
    arbiter (valveAt 0 none) (valveAt 51 (asks 60 1)) shedIdle false false,
    ((arbiter (valveAt 81 none) (valveAt 0 none) shedIdle false false).onValve 4 .hp
      ⟨0, 20, none, .stopped⟩).updateCell 3 fun x => { x with config := { x.config with floor := 81 } },
    arbiter ⟨0, 81, none, .stopped⟩ ⟨0, 20, none, .stopped⟩ shedIdle false false,
    arbiter (valveAt 81 none) (valveAt 20 none) shedSettling false false,
    arbiter (valveAt 80 none) (valveAt 20 none) { shedIdle with state := .exhausted } false false,
    arbiter (valveAt 20 none) (valveAt 20 none) shedIdle true false,
    arbiter (valveAt 20 none) (valveAt 0 (asks 20 1)) shedIdle true true,
    arbiterHeld (valveAt 20 (asks 30 1)) (valveAt 0 none)]

theorem witness_EvaluationFigures_handled :
    ∀ s ∈ handled, s.part = .operating ∧ s.roomAt stationTx ∧ s.bankQuiet ∧ s.valvesOk ∧
      s.requestsOk := by
  have valves : ∀ s ∈ handled, ∀ c : Fin 8, ∀ k ∈ [ValveKind.flood, .hp],
      (s.valve c k).commanded ≤ (s.valve c k).counted ∧
        ∀ p ∈ (s.valve c k).pending, (s.valve c k).commanded < p.value := by decide +kernel
  have rest : ∀ s ∈ handled, s.part = .operating ∧ s.roomAt stationTx ∧
      ∀ u : Fin 6, s.filter.units[u].state ≠ .flushWait := by
    unfold State.roomAt
    decide +kernel
  intro s h
  have both (c : Fin 8) (k : ValveKind) := valves s h c k (by cases k <;> simp)
  exact ⟨(rest s h).1, (rest s h).2.1, .inr (rest s h).2.2, fun c k => (both c k).1,
    fun c k p hp => (both c k).2 p hp⟩

/-- What the handling leaves: low-low, shed state, phase of the step, and each valve of cell 3 with the
bound of its request. -/
structure Left where
  lowlow : Bool
  shed : ShedState
  phase : Option Phase
  flood : Nat
  floodBound : Option Bound
  hp : Nat
  hpBound : Option Bound
  deriving DecidableEq

/-- What the evaluation of a CLEAR_EXCEPTIONS that names nothing leaves. -/
def left (s : State) : Left :=
  let t := after (.clearExceptions .station 0) s;
  ⟨t.grants.lowlow, t.grants.shed.state, t.grants.shed.current.map ShedStep.phase,
    (t.valve 3 .flood).commanded, (t.valve 3 .flood).pending.map PendingRequest.bound,
    (t.valve 3 .hp).commanded, (t.valve 3 .hp).pending.map PendingRequest.bound⟩

/-- The branch of the handling each of those states takes: requests served in full, in part, not at
all for want of polishing or of total supply; each phase; no victim; a step still settling; the end
of a shed operation; low-low newly and already; HOLD. -/
theorem witness_EvaluationFigures_branches :
    handled.map left =
      [⟨false, .idle, none, 30, none, 40, none⟩,
        ⟨false, .idle, none, 50, some .total, 40, none⟩,
        ⟨false, .idle, none, 0, none, 0, some .polish⟩,
        ⟨false, .idle, none, 80, none, 0, some .total⟩,
        ⟨false, .settling, some .a, 0, some .shed, 20, none⟩,
        ⟨false, .settling, some .b, 0, none, 0, some .shed⟩,
        ⟨false, .settling, some .c, 0, some .shed, 0, none⟩,
        ⟨false, .exhausted, none, 0, none, 0, none⟩,
        ⟨false, .settling, some .b, 81, none, 20, none⟩,
        ⟨false, .idle, none, 80, none, 20, none⟩,
        ⟨true, .idle, none, 20, none, 0, some .lowlow⟩,
        ⟨true, .idle, none, 20, none, 0, some .lowlow⟩,
        ⟨false, .idle, none, 20, some .hold, 0, none⟩] := by decide +kernel

/-- The step timer's expiry, with a deficit left and with none. -/
theorem witness_EvaluationFigures_stepTimer :
    ∀ n ∈ [50, 51],
      let s := arbiter (valveAt 20 none) ⟨30, n, none, .stopped⟩ shedSettling false false;
      s.part = .operating ∧ s.grants.shed.timer.isRunning = true ∧
        s.grants.shed.current = some ⟨3, .hp, .b, 30, 0⟩ ∧
        (∀ u : Fin 6, s.filter.units[u].state ≠ .flushWait) ∧
        ∀ c : Fin 8, ∀ k ∈ [ValveKind.flood, .hp], (s.valve c k).pending = none ∧
          (s.valve c k).commanded ≤ (s.valve c k).counted := by decide +kernel
/-- Untracked material lowest at offset 2, and a lot of another target where `other`. -/
def nearing (other : Bool) (position : Target) : State :=
  let s := (hall 32).onMap fun d =>
    if d = 1 then .untracked else if d = 2 ∧ other then .loaded 4 else .empty;
  ((s.onLot 4 (lotIn (.cell 1) 3 .inTransit)).onBin 1 ⟨.released, 0, 0, false⟩).withRouting
    ⟨position, .settled, .stopped⟩

theorem witness_RoutingEvents_material :
    (∀ other ∈ [true, false], ∀ m ∈ [Target.reject, ⟨1, .crush⟩],
      let s := nearing other m;
      s.part = .operating ∧ 1 ≤ s.trunk.config.routingLead ∧ 2 = s.trunk.config.routingLead ∧
        s.material (s.trunk.flight 1) = some (.reject, 15) ∧ s.trunk.flight 0 = .empty ∧
        s.crusher.residents = [] ∧ s.crusher.untracked = false ∧ s.routing.position = m) ∧
      (let s := nearing true .reject;
        s.material (s.trunk.flight 2) = some (⟨1, .crush⟩, 2) ∧
          (⟨1, .crush⟩ : Target) ≠ s.routing.position ∧ s.bins[(1 : Fin 5)].state = .released) ∧
      ∀ d ≤ 2, (hall 32).trunk.flight d = .empty := by decide +kernel

/-- Outlet 1's own lot, RESERVED at two flights, its bin CLOSING with `committed`. -/
def setBack (committed : Nat) : State :=
  let s := (gateAt .closed true).onLot 4 (lotIn (.cell 1) 2 .reserved);
  (s.onMap fun d => if d = 20 ∨ d = 21 then .reserved 4 else .empty).onBin 1
    ⟨.closing, 0, committed, false⟩

theorem witness_GateEvents_lotSetBack :
    ∀ n ∈ [50, 51],
      (setBack n).part = .operating ∧ (setBack n).inputs.gateClosed[(1 : Fin 9)] = true ∧
        (setBack n).outlets[(1 : Fin 9)].gate = .closed ∧
        (setBack n).outlets[(1 : Fin 9)].timer.isRunning = true ∧
        (setBack n).openLot (outletSource 1) = some (4, lotIn (.cell 1) 2 .reserved) ∧
        (lotIn (.cell 1) 2 .reserved).notify = true ∧
        (∀ i : Fin 32, i ≠ 4 → (setBack n).intake.lots[i] = none) ∧
        (setBack n).bins[(1 : Fin 5)].committed = n ∧
        (lotIn (.cell 1) 2 .reserved).declared = 50 := by decide +kernel
theorem test_gate_setsLotBack :
    let t := after (.gateTimerExpiry 1) (setBack 50);
    t.trunk.flight 20 = .empty ∧ t.trunk.flight 21 = .empty ∧
      t.bins[(1 : Fin 5)].state = .released := by decide +kernel
theorem witness_HeldSludgeRequest_bankQuiet :
    sludgeWaits.filter.slot = none ∧
      ∀ u : Fin 6, sludgeWaits.filter.units[u].state ≠ .flushWait := by decide +kernel
theorem witness_SettleAndStepTimers_operating :
    (settling (hall 32)).part = .operating ∧ (settling (hall 32)).bankQuiet ∧
      (∀ c : Fin 8, ∀ k ∈ [ValveKind.flood, .hp],
        ((settling (hall 32)).valve c k).commanded ≤ ((settling (hall 32)).valve c k).counted) ∧
      (let t := after (.settleTimerExpiry 2 .hp) (settling (hall 32));
        (t.valve 2 .hp).commanded = ((settling (hall 32)).valve 2 .hp).commanded) ∧
      let s := (settling State.reset).withGrants { (settling State.reset).grants with
        shed := ⟨.settling, 1, none, .running 0⟩ };
      s.part = .config ∧ s.grants.shed.timer.isRunning = true ∧ s.grants.shed.current = none := by
  unfold State.bankQuiet
  decide +kernel

/-- Cell 3 with an HP grant, its link timer running, a lot of its own in a state. -/
def linking (lot : Option LotState) : State :=
  let s := (jobHall .running true).onValve 3 .hp ⟨700, 700, none, .stopped⟩;
  match lot with
  | some st => s.onLot 4 (lotIn (.cell 3) 3 st)
  | none => s

theorem witness_LinkTimerExpiry_lots :
    (∀ l ∈ [none, some .pending, some LotState.reserved],
      (linking l).cells[(3 : Fin 8)].linkTimer.isRunning = true ∧
        0 < ((linking l).valve 3 .hp).commanded) ∧
      (linking none).openLot (.cell 3) = none ∧
      (linking (some .pending)).openLot (.cell 3) = some (4, lotIn (.cell 3) 3 .pending) ∧
      (linking (some .reserved)).openLot (.cell 3) = some (4, lotIn (.cell 3) 3 .reserved) := by
  decide +kernel
/-- A profile whose list at address 120 sets two aux outputs: `NewAux` over any outputs. -/
theorem witness_NewAux (base : Vector Byte 8) :
    (Memory.wf nesting.profiles.memory = true) ∧
      (∃ p, nesting.profiles.profiles[(31 : Fin 64)] = some p ∧ p.presetStart = some 120 ∧
        nesting.NewAux p base base (put (put base 2 90) 3 90)) ∧
      nesting.NewAux (profileOf none) base base base := by
  refine ⟨by decide +kernel, ⟨⟨0, 1, 3, true, some 120, ⟨600, 300, 0, 0, Vector.replicate 8 0⟩, .zero,
    false, none⟩, by decide +kernel, rfl, nofun, ?_⟩, fun _ => rfl, nofun⟩
  rintro a ⟨⟩
  refine ⟨[⟨2, [90, 90]⟩], 124, .block 15 120 124 [90, 90] [] ⟨2, [90, 90]⟩ (by decide +kernel)
    (by decide) (by decide) (by decide) (by decide +kernel) rfl (by decide) ?_
    (.done _ _ (by decide) (by decide +kernel)), fun k => ⟨fun h => ?_, ?_⟩⟩
  · decide +kernel
  · have h := h ⟨2, [90, 90]⟩ (by simp)
    fin_cases k <;> simp_all [put]
  · rintro front b rest h hk hl -
    obtain ⟨rfl, rfl, rfl⟩ : front = [] ∧ b = ⟨2, [90, 90]⟩ ∧ rest = [] := by
      cases front <;> simp_all
    fin_cases k <;> first | exact absurd hl (by decide) | simp_all [put]
/-- The statuses of demands above the grant: served, served in part, left waiting. -/
theorem witness_SetCoolant_above :
    let s := arbiter (valveAt 20 none) (valveAt 20 none) shedIdle false false;
    s.roomAt (cellTx 3) ∧ s.part = .operating ∧ s.bankQuiet ∧ s.cells[(3 : Fin 8)].state = .running ∧
      s.cells[(3 : Fin 8)].facts = some (jobFacts true) ∧ s.grants.hpFault = false ∧
      (s.valve 3 .flood).commanded < min 21 (s.cells[(3 : Fin 8)].config.bound .flood) ∧
      sent (after (.setFlood (.cell 3) 70) s) 3 = some (0x05, .accepted) ∧
      sent (after (.setFlood (.cell 3) 71) s) 3 = some (0x05, .reduced) ∧
      sent (after (.setHp (.cell 3) 50) s) 3 = some (0x06, .accepted) ∧
      sent (after (.setHp (.cell 3) 51) s) 3 = some (0x06, .waiting .polish) ∧
      (after (.setFlood (.cell 3) 19) s).valve 3 .flood = ⟨19, 20, none, .running 1500⟩ := by
  unfold State.roomAt State.bankQuiet
  decide +kernel

/-- Cell 3's lot of three flights on an empty trunk may be reserved from offset 17, its gate lead, and
from no lower one. -/
theorem witness_Discharge_window (gate : GateState) :
    let s := discharging gate none;
    let l := lotIn (.cell 3) 3 .pending;
    s.binTakes l ∧ s.MayReserve l 17 ∧ (∀ v, v < 17 → ¬s.MayReserve l v) ∧
      17 = s.outletOffset l.source.outlet + s.trunk.config.gateLead ∧
      ∀ d, (s.trunk.flight d).lot? ≠ some 0 := by
  have e : ∀ d, (discharging gate none).trunk.flight d = .empty := fun d => by
    show (Vector.replicate 256 Flight.empty)[_] = _
    simp
  refine ⟨by unfold State.binTakes; cases gate <;> decide +kernel,
    ⟨by cases gate <;> decide, by cases gate <;> decide, fun _ _ => e _, ?_, ?_, ?_⟩,
    fun v hv h => ?_, by cases gate <;> decide, fun d => by rw [e]; decide⟩
  · intro p t purge _ hp
    simp [e, State.material] at hp
  · intro p t purge _ _ hp
    simp [e, State.material] at hp
  · intro p _ _ _ _ _ _ _ _ hp
    simp [e, State.material] at hp
  · have := h.lead
    have : (discharging gate none).outletOffset (lotIn (.cell 3) 3 .pending).source.outlet +
        (discharging gate none).trunk.config.gateLead = 17 := by cases gate <;> decide
    omega

/-- What the reservation asks besides: no lot on the books, the trunk's configuration in range; and a
lot too long for the run, or a bin without room, for the lot that waits. -/
theorem witness_Discharge_pass :
    (∀ g ∈ [GateState.closed, .closing, .isOpen],
      let s := discharging g none;
      s.trunkOk = true ∧ (∀ i : Fin 32, s.intake.lots[i] = none) ∧ s.outlets[(3 : Fin 9)].gate = g ∧
        1 ≤ (jobFacts true).maxFlights) ∧
      (∀ v, ¬(discharging .closed none).MayReserve (lotIn (.cell 3) 16 .pending) v) ∧
      ¬((discharging .closed none).onBin 1 ⟨.inService, 950, 1, false⟩).binTakes
        (lotIn (.cell 3) 3 .pending) ∧
      ((discharging .closed none).onBin 1 ⟨.inService, 950, 0, false⟩).binTakes
        (lotIn (.cell 3) 3 .pending) := by
  refine ⟨by decide +kernel, fun v h => ?_, ?_, ?_⟩
  · have h1 := h.lead
    have h2 := h.run
    have : (discharging .closed none).outletOffset (lotIn (.cell 3) 16 .pending).source.outlet +
        (discharging .closed none).trunk.config.gateLead = 17 ∧
        (discharging .closed none).trunk.config.carry = 32 ∧
        (lotIn (.cell 3) 16 .pending).flights = 16 := by decide
    omega
  · unfold State.binTakes
    decide +kernel
  · unfold State.binTakes
    decide +kernel
/-- Each item of R192 with a state in which it is the first that fails. -/
def offending : List (Nat × State) :=
  let config (c : TrunkConfig) : State := (planned 5).withTrunk { (planned 5).trunk with config := c };
  let base : TrunkConfig := ⟨64, 160, 2, 2, 4, 1, 65535, 3, 40, 1000⟩;
  [(1, config { base with beltLength := 64 }), (2, config { base with routingLead := 5 }),
    (3, config { base with gateLead := 9 }), (4, State.reset), (19, planned 3), (19, planned 64),
    (21, planned 20), (24, planned 4)]

theorem witness_Commission_items :
    ∀ x ∈ offending, x.2.roomAt stationTx ∧ x.2.part = .config ∧ x.2.itemFails x.1 := by
  unfold State.roomAt State.itemFails
  decide +kernel
set_option synthInstance.maxSize 1000 in
theorem witness_Commission_firstItem : ∀ x ∈ offending, ∀ m < x.1, ¬x.2.itemFails m := by
  unfold State.itemFails
  decide +kernel
/-- What RESTART finds: grants, a unit FLUSHING, routing elsewhere with the crusher empty, material in
the crusher with its allowance left and used up, gates moving. -/
theorem witness_Restart_equipment :
    let away := (hall 32).withRouting ⟨⟨1, .crush⟩, .settled, .stopped⟩;
    let holding (n : Nat) := (hall 32).withCrusher { (hall 32).crusher with
      untracked := true, allowance := n };
    (∀ s ∈ [away, holding 0, holding 1, flushes false, gateAt .isOpen true, gateAt .closing false,
        granted .running true false], s.roomAt stationTx ∧ s.part = .operating ∧ s.trunkOk = true) ∧
      (away.crusher.residents = [] ∧ away.crusher.untracked = false ∧
        away.routing.position ≠ ⟨4, .crush⟩) ∧
      ((holding 1).crusher.untracked = true ∧ 0 < (holding 1).crusher.allowance ∧
        ¬0 < (holding 0).crusher.allowance) ∧
      ((flushes false).filter.units[(2 : Fin 6)].state = .flushing ∧
        (∀ w : Fin 6, w.1 < 2 → (flushes false).filter.units[w].state ≠ .flushing) ∧
        ∀ u : Fin 6, (hall 32).filter.units[u].state ≠ .flushing) ∧
      ((gateAt .isOpen true).outlets[(1 : Fin 9)].gate = .isOpen ∧
        (gateAt .closing false).outlets[(1 : Fin 9)].gate = .closing) ∧
      0 < ((granted .running true false).valve 3 .flood).commanded ∧
      ((granted .running true false).valve 4 .flood).commanded = 0 ∧
      ((granted .running true false).valve 4 .hp).commanded = 0 := by
  unfold State.roomAt
  decide +kernel

/-- Notices that wait on cell ports 3 and 4 at RESTART, with grants of cell 3 alone. -/
def waitingNotices : State :=
  let s := granted .running true false;
  let three : List Notice := [.lot 7 .reserved false false false false, .grant 900 0 .granted];
  let four : List Notice := [.grant 0 0 .shed, .lot 8 .lost false false false false];
  s.withLinks { s.links with notices := put (put s.links.notices 3 three) 4 four }

theorem test_restart_keepsGrantNotices :
    let t := after (.restart .station) waitingNotices;
    waitingNotices.roomAt stationTx ∧ waitingNotices.part = .operating ∧
      t.owedNotices 3 = [.grant 0 0 .restart] ∧ t.owedNotices 4 = [.grant 0 0 .shed] := by
  unfold State.roomAt
  decide +kernel

/-- Unit 5 FLUSH_READY with the slot, its sludge lot 4 in a state. -/
def readied (lot : Option LotState) : State :=
  let s := (hall 32).onUnit 5 .flushReady false 90;
  let s := (s.withFilter { s.filter with slot := some 5 }).onMap (oneAt 20 (.reserved 4));
  match lot with
  | some st => s.onLot 4 (lotIn .flush 2 st)
  | none => s

theorem witness_FilterRequests_withdrawn :
    (∀ l ∈ [some LotState.reserved, some .loading, none],
      (readied l).roomAt stationTx ∧ (readied l).filter.units[(5 : Fin 6)].state = .flushReady ∧
        ∀ w : Fin 6, w ≠ 5 → (readied l).filter.units[w].state ≠ .flushWait ∧
          (readied l).filter.units[w].state ≠ .flushReady) ∧
      ((readied (some .reserved)).openLot .flush = some (4, lotIn .flush 2 .reserved) ∧
        20 < (readied (some .reserved)).trunk.config.carry ∧
        (readied (some .reserved)).trunk.flight 20 = .reserved 4) ∧
      (readied (some .loading)).openLot .flush = some (4, lotIn .flush 2 .loading) ∧
      let s := (hall 32).onUnit 5 .online false 90;
      s.filter.units[(5 : Fin 6)].state = .online ∧ s.filter.slot = none ∧
        ∀ u : Fin 6, s.filter.units[u].state ≠ .flushWait := by
  unfold State.roomAt
  decide +kernel

/-- Cell 1's lot 4 alone in a BLOCKED crusher, a flight of it LOADED and one RESERVED. -/
def jammedLot (st : LotState) (closed : Bool) : State :=
  let s := (resident 3 st).onMap fun d =>
    if d = 5 then .loaded 4 else if d = 31 then .reserved 4 else .empty;
  let s := (s.updateCell 1 fun x => { x with active := some 12 }).withCrusher
    { s.crusher with state := .blocked, drain := .paused 1 };
  s.gateLine 1 closed

theorem witness_CrusherAndGateRequests_removed :
    ∀ st ∈ [LotState.inTransit, .loading, .reserved], ∀ closed ∈ [true, false],
      let s := jammedLot st closed;
      s.roomAt stationTx ∧ s.part = .operating ∧ s.crusher.state = .blocked ∧
        s.crusher.residents = [⟨4, 3, true, ⟨1, .crush⟩, false⟩] ∧
        s.intake.lots[(4 : Fin 32)] = some (lotIn (.cell 1) 3 st) ∧ s.intake.held = none ∧
        (∀ i : Fin 32, i ≠ 4 → s.intake.lots[i] = none) ∧ 31 < s.trunk.config.carry ∧
        s.trunk.flight 5 = .loaded 4 ∧ s.trunk.flight 31 = .reserved 4 ∧
        s.cells[(1 : Fin 8)].active ≠ none ∧ (lotIn (.cell 1) 3 st).notify = true ∧
        s.inputs.gateClosed[cellTx 1] = closed := by
  unfold State.roomAt
  decide +kernel

/-- Beside that lot, LOADING, lot 6 of cell 2 in the BLOCKED crusher, and lot 9 on the trunk. -/
def jammedTwo : State :=
  let s := ((jammedLot .loading false).onLot 6 (lotIn (.cell 2) 2 .inTransit)).onLot 9
    (lotIn (.cell 5) 3 .inTransit);
  s.withCrusher { s.crusher with
    residents := s.crusher.residents ++ [⟨6, 2, false, ⟨1, .crush⟩, false⟩] }

/-- What `LotsRemoved` asks of more lots than one. -/
theorem witness_CrusherAndGateRequests_two :
    let gone : Fin 32 → Bool := fun id => decide (id = 4 ∨ id = 6);
    (jammedTwo.residentsOk ∧ jammedTwo.part = .operating ∧ jammedTwo.crusher.state = .blocked ∧
        jammedTwo.roomAt stationTx) ∧
      (∀ id : Fin 32, gone id = true ↔ ∃ r ∈ jammedTwo.crusher.residents, r.lot = id) ∧
      (gone 9 = false ∧ (jammedTwo.intake.lots[(9 : Fin 32)]).isSome = true) ∧
      (jammedTwo.intake.lots[(4 : Fin 32)] = some (lotIn (.cell 1) 3 .loading) ∧
        ∀ i : Fin 32, ∀ m ∈ jammedTwo.intake.lots[i], gone i = true → m.source = .cell 1 → i = 4) ∧
      (∀ i : Fin 32, ∀ m ∈ jammedTwo.intake.lots[i], gone i = true → m.source = .cell 2 →
        m.state ≠ .loading) ∧
      (jammedTwo.trunk.flight 5 = .loaded 4 ∧ jammedTwo.trunk.flight 31 = .reserved 4) ∧
      (∀ i : Fin 32, ∀ l ∈ jammedTwo.intake.lots[i],
        l.state ≠ .pending ∧ l.source ≠ .flush ∧ l.target.bin = 1) ∧
      jammedTwo.intake.held = none := by
  unfold State.roomAt State.residentsOk
  decide +kernel
theorem test_crusherCleared_two :
    let t := after (.crusherCleared .station) jammedTwo;
    (∀ i : Fin 32, (t.intake.lots[i]).isSome = true ↔ i = 9) ∧
      t.cells[(1 : Fin 8)].working.lots = 1 ∧ t.trunk.flight 5 = .untracked ∧
      t.trunk.flight 31 = .empty := by decide +kernel

/-- Sticky flag INVALID with its exception masked, where `hold` with another unmasked one standing. -/
def sticky (hold : Bool) : State :=
  State.reset.withBalance { State.reset.balance with
    sticky := ⟨hold, true, false, false⟩, masked := ⟨!hold, true, true, true⟩, hold := hold }

theorem witness_MasksAndExceptions_markers :
    ∀ hold ∈ [true, false],
      (sticky hold).roomAt stationTx ∧ (sticky hold).part = .config ∧ (sticky hold).holdOk ∧
        (sticky hold).balance.hold = hold ∧
        Unmasked (sticky hold).balance.sticky (sticky hold).balance.masked ⟨true, false, true, true⟩ ∧
        ∀ c : Fin 8,
          (after (.setMasks .station 1 0 1 1) (sticky hold)).balance.markers[c] = true := by
  unfold State.roomAt State.holdOk Unmasked
  decide +kernel
theorem witness_ReadsCapture_limits :
    (7 < 8 ∧ 31 < 32 ∧ 63 < 64 ∧ 3 < 4 ∧ 511 < 512 ∧ 511 ≤ 511 ∧ 1 < 2 ∧ 15 < 16 ∧ 127 < 128) ∧
      (∀ i : Fin 32, State.reset.intake.lots[i] = none) ∧
      (let s := (hall 32).onLot 4 (lotIn (.cell 1) 3 .inTransit);
        s.intake.lots[(4 : Fin 32)] = some (lotIn (.cell 1) 3 .inTransit) ∧
          ∀ j : Fin 32, j.1 < 4 → s.intake.lots[j] = none) ∧
      State.reset.profiles.profiles[(0 : Fin 64)] = none ∧
      (stored none).profiles.profiles[(12 : Fin 64)] = some (profileOf none) := by decide +kernel

theorem witness_EmptyQueueStep_less :
    Timer.stopped.tick = .stopped ∧ (∀ ms, (Timer.running ms).tick = .running (ms - 1)) ∧
      ∀ c ∈ [Instr.stalenessTimerExpiry, .drainTimerExpiry], c ∈
        ((State.reset.withSamples { State.reset.samples with timer := .running 0 }).withCrusher
          { State.reset.crusher with drain := .running 0 }).dueTimers :=
  ⟨rfl, fun _ => rfl, by decide +kernel⟩

/-- What the invariants of flights and lots ask: a lot LOADING at its OPEN gate, one RESERVED above a
CLOSING gate, a gate in FAULT with its lot PENDING; and CONFIG. -/
theorem witness_StepKeepsConfigEmpty_lots :
    (∀ s ∈ [pitching .isOpen (some (lotIn (.cell 3) 3 .loading)) none (oneAt 15 (.reserved 4)),
        pitching .closing (some (lotIn (.cell 3) 3 .reserved)) none (oneAt 16 (.reserved 4)),
        pitching .fault (some (lotIn (.cell 3) 3 .pending)) none (oneAt 31 .untracked)],
      premises s = true ∧ s.part = .operating) ∧
      (premises State.reset = true ∧ State.reset.configOk) ∧ draining.residentsOk ∧
      ∃ t, step draining = .next t := by
  refine ⟨by decide +kernel, ⟨by decide +kernel, ?_⟩, ?_, _, rfl⟩
  · unfold State.configOk
    decide +kernel
  · unfold State.residentsOk
    decide +kernel

/-- The lots of `drifted`: 9 pushed off the tail by a positive drift of 1; by one beyond the tolerance,
both are lost, 5 out of the crusher. -/
theorem witness_HomeMark_lost :
    (∀ id : Fin 32, decide (id = 9) = true ↔ (drifted 1).intake.lots[id] ≠ none ∧
        ∃ d, d < (drifted 1).trunk.config.carry ∧ (drifted 1).trunk.config.carry ≤
          d + (drifted 1).trunk.belt ∧ ((drifted 1).trunk.flight d).lot? = some id) ∧
      (∀ id : Fin 32, decide (id = 5 ∨ id = 9) = true ↔ (drifted 2).intake.lots[id] ≠ none ∧
        ∃ d, d < (drifted 2).trunk.config.carry ∧ ((drifted 2).trunk.flight d).lot? = some id) ∧
      (∀ b ∈ [1, 2, 39], premises (drifted b) = true ∧ (drifted b).part = .operating ∧
        (drifted b).trunk.registered = true ∧ ∀ d < (drifted b).trunk.config.carry,
          ∀ x ∈ ((drifted b).trunk.flight d).lot?, (drifted b).intake.lots[x] ≠ none) ∧
      (0 < (drifted 1).trunk.drift ∧ (drifted 1).trunk.drift ≤ (drifted 1).trunk.config.tolerance) ∧
      (drifted 39).trunk.drift = -1 ∧ 1 ≤ (drifted 39).trunk.config.tolerance ∧
      ((drifted 2).trunk.config.tolerance : Int) < |(drifted 2).trunk.drift| := by decide +kernel

/-- What the clauses on LOST lots and the moved map ask of those two. -/
theorem witness_HomeMark_clauses :
    let s := drifted 1;
    let out : Fin 32 → Bool := fun id => decide (id = 9);
    let all : Fin 32 → Bool := fun id => decide (id = 5 ∨ id = 9);
    (s.intake.lots[(9 : Fin 32)] = some (lotIn (.cell 6) 2 .reserved) ∧ out 9 = true ∧ out 5 = false ∧
        (s.intake.lots[(5 : Fin 32)]).isSome = true) ∧
      (∀ r ∈ s.crusher.residents, out r.lot = false) ∧ (∃ r ∈ s.crusher.residents, all r.lot = true) ∧
      (s.intake.held = none ∧ ∀ i : Fin 32, ∀ l ∈ s.intake.lots[i], l.state ≠ .pending ∧
        l.source ≠ .flush) ∧
      (lotIn (.cell 6) 2 .reserved).notify = true ∧
      s.trunk.flight 6 = .untracked ∧ s.trunk.flight 0 = .loaded 5 ∧ s.trunk.flight 14 = .reserved 9 ∧
      s.trunk.flight 2 = .empty ∧ 14 + 1 < s.trunk.config.carry := by decide +kernel

/-- Material near the crusher with the routing unit in a state, the settled line at a level, the routing
fault's alert enabled. -/
def nearingAt (r : Routing) (level : Bool) : State :=
  let s := (nearing true r.position).withRouting r;
  (s.withInputs { s.inputs with routingSettled := level }).withPlant
    { s.plant with enables := put s.plant.enables AlertSource.routingFault.index true }

theorem witness_RoutingEvents_examines :
    let moving := nearingAt ⟨⟨1, .crush⟩, .moving, .running 1⟩;
    let settled := nearingAt ⟨⟨1, .crush⟩, .settled, .stopped⟩;
    (∀ s ∈ [moving false, settled true, moving true, settled false], s.part = .operating ∧
        premises s = true ∧ s.material (s.trunk.flight 1) = some (.reject, 15) ∧
        s.isLatched .routingFault = true) ∧
      ((moving false).inputs.routingSettled = false ∧ (moving false).routing.state ≠ .settled ∧
        (moving false).routing.timer.isRunning = true) ∧
      ((settled true).inputs.routingSettled = true ∧ (settled true).routing.state = .settled) ∧
      (moving true).routing.state ≠ .settled ∧ (settled false).routing.state = .settled := by
  decide +kernel

/-- What `RoutingExamined` asks: the lowest flight's target commanded already or not, the crusher
drained or not. -/
theorem witness_RoutingExamined :
    (∀ p ∈ [Target.reject, ⟨1, .crush⟩], (after .routingMove (nearing true p)).lowestIs .reject) ∧
      (Target.reject ≠ ⟨1, .crush⟩ ∧
        (after .routingMove (nearing true ⟨1, .crush⟩)).crusher.residents = [] ∧
        (after .routingMove (nearing true ⟨1, .crush⟩)).crusher.untracked = false) ∧
      (let s := (nearing true ⟨1, .crush⟩).withCrusher
          { (nearing true ⟨1, .crush⟩).crusher with untracked := true };
        (after .routingMove s).crusher.untracked = true ∧ s.part = .operating) ∧
      ((after .routingMove (nearing true .reject)).trunk.halt.routing = true ∧
        (after .routingMove (nearing true .reject)).trunk.halt.bin = true) := by
  have low : ∀ p ∈ [Target.reject, ⟨1, .crush⟩],
      let t := after .routingMove (nearing true p);
      1 ≤ t.trunk.config.routingLead ∧ 1 < t.trunk.config.carry ∧
        t.material (t.trunk.flight 1) = some (.reject, 15) ∧ ∀ e < 1, t.trunk.flight e = .empty := by
    decide +kernel
  exact ⟨fun p hp => ⟨1, (low p hp).1, (low p hp).2.1, ⟨15, (low p hp).2.2.1⟩, (low p hp).2.2.2⟩,
    by decide +kernel⟩

/-- The crusher's timers and the bins, in OPERATING with the invariants that the examination asks. -/
theorem witness_examined_premises :
    (∀ x ∈ [(3, LotState.inTransit), (2, .inTransit)], premises (resident x.1 x.2) = true ∧
        (resident x.1 x.2).part = .operating) ∧
      (∀ st ∈ [BinState.released, .absent, .inService, .full, .closing, .presentWait],
        premises (binAt st true) = true ∧ premises (binAt st false) = true ∧
          premises ((hall 32).onBin 4 ⟨st, 10, 20, false⟩) = true) ∧
      (State.reset.part = .config ∧ premises State.reset = true ∧
        let c := { Delivery.powerOn with capacity := Vector.replicate 5 100 };
        let s := State.reset.onBin 1 ⟨.inService, 100, 0, false⟩;
        deliveryConfigOk c = true ∧ s.part = .config ∧
          (after (.writeBinConfig .station c) s).bins[(1 : Fin 5)].state ≠
            s.bins[(1 : Fin 5)].state) := by decide +kernel

/-- The refusals of START_JOB from order 8 on: no recipe, a demand one above its bound, an open lot. -/
theorem witness_StartJobNests_refused :
    let asking (n : Nat) : Profile :=
      { profileOf none with initial := ⟨n, 3000, 0, 0, Vector.replicate 8 0⟩ };
    ∀ st ∈ [CellState.idle, .running],
      let s := jobHall st (st == .running);
      let bare := s.withRecipes State.reset.recipes;
      let above := s.onProfile 31 (asking 5001);
      let lot := (s.onProfile 31 (asking 5000)).onLot 4 (lotIn (.cell 3) 3 .pending);
      (∀ x ∈ [bare, above, lot], x.roomAt (cellTx 3) ∧ x.part = .operating ∧
          x.cells[(3 : Fin 8)].state = st ∧ x.cells[(3 : Fin 8)].stack.length < 3) ∧
        (bare.profiles.profiles[(31 : Fin 64)] = some (profileOf none) ∧
          bare.recipes.lookup 0 0 = none) ∧
        (above.profiles.profiles[(31 : Fin 64)] = some (asking 5001) ∧
          above.recipes.lookup 0 0 = some ⟨1, .crush, 2, 1, true, 4⟩ ∧
          above.cells[(3 : Fin 8)].config.floodMax < 5001) ∧
        (lot.profiles.profiles[(31 : Fin 64)] = some (asking 5000) ∧
          5000 ≤ lot.cells[(3 : Fin 8)].config.floodMax ∧ 3000 ≤ lot.cells[(3 : Fin 8)].config.hpMax ∧
          lot.openLot (.cell 3) ≠ none) := by
  unfold State.roomAt
  decide +kernel

/-- Cell 3 PAUSED with its valves at `base` and working values that demand `flood` and `hp`. -/
def demanding (base flood hp : Nat) : State :=
  (arbiter (valveAt base none) (valveAt base none) shedIdle false false).updateCell 3 fun x => { x with
    state := .paused, working := ⟨flood, hp, 0, 0⟩ }

/-- What `DemandsAsked` asks, and the statuses: served in full, flood in part, HP wholly waiting, both
left pending, no demand above the grant. -/
theorem witness_DemandsAsked :
    (∀ x ∈ [(0, 70, 0), (0, 101, 0), (0, 0, 51), (0, 101, 51), (20, 20, 20)],
      let s := demanding x.1 x.2.1 x.2.2;
      s.roomAt (cellTx 3) ∧ s.part = .operating ∧ s.cells[(3 : Fin 8)].state = .paused ∧
        (∀ u : Fin 6, s.filter.units[u].state ≠ .flushWait) ∧ s.grants.hpFault = false ∧
        ∀ k ∈ [ValveKind.flood, .hp], (s.valve 3 k).commanded ≤ (s.valve 3 k).counted ∧
          (s.valve 3 k).pending = none) ∧
      [(0, 70, 0), (0, 101, 0), (0, 0, 51), (0, 101, 51), (20, 20, 20)].map (fun x =>
        sent (after (.continueJob (.cell 3)) (demanding x.1 x.2.1 x.2.2)) 3) =
          [some (0x04, .accepted), some (0x04, .reduced), some (0x04, .waiting .polish),
            some (0x04, .waiting .total), some (0x04, .accepted)] ∧
      (let t := after (.continueJob (.cell 3)) (demanding 0 101 51);
        (t.valve 3 .flood).pending ≠ none ∧ (t.valve 3 .hp).pending ≠ none ∧
          t.grants.shed.current = none) := by
  unfold State.roomAt
  decide +kernel

/-- A suspended job and an open lot of the cell; the lot of a running job to cancel. -/
theorem witness_EndJob_resumes :
    (∀ st ∈ [LotState.pending, .reserved],
      let s := nested (some st);
      s.roomAt (cellTx 3) ∧ s.part = .operating ∧ s.hasJob 3 = true ∧
        s.openLot (.cell 3) = some (4, lotIn (.cell 3) 3 st) ∧ st ≠ .loading ∧
        s.cells[(3 : Fin 8)].stack = [] ++ [31] ∧
        s.profiles.profiles[(31 : Fin 64)] = some (profileOf (some 3)) ∧
        s.cells[(3 : Fin 8)].active ≠ some 31 ∧ (∀ u : Fin 6, s.filter.units[u].state ≠ .flushWait) ∧
        s.intake.held = none ∧ (∀ i : Fin 32, i ≠ 4 → s.intake.lots[i] = none)) ∧
      ((nested none).withRecipes State.reset.recipes).recipes.lookup 0 0 = none ∧
      0 < ((linking none).valve 3 .hp).commanded ∧ (linking none).hasJob 3 = true := by
  unfold State.roomAt
  decide +kernel

/-- The clauses on DISCHARGE_END: a lot RESERVED above the outlet, one LOADING with nothing loaded and
with the flight under the outlet loaded by the request, and no other lot that waits. -/
theorem witness_DischargeEnd_clauses :
    let under := (discharging .isOpen (some .loading)).onMap fun d =>
      if 15 ≤ d ∧ d < 18 then .reserved 4 else .empty;
    let reserved := (discharging .closed (some .reserved)).onMap fun d =>
      if 20 ≤ d ∧ d < 23 then .reserved 4 else .empty;
    (∀ s ∈ [loading 0, loading 2, under, reserved], premises s = true ∧ s.roomAt (cellTx 3) ∧
        s.part = .operating ∧ s.intake.held = none ∧ ∀ i : Fin 32, i ≠ 4 → s.intake.lots[i] = none) ∧
      ((loading 0).flightsLoaded 4 15 = 0 ∧ (loading 2).flightsLoaded 4 15 = 2 ∧
        under.flightsLoaded 4 15 = 1 ∧ under.cells[(3 : Fin 8)].config.outletOffset = 15) ∧
      (under.trunk.flight 15 = .reserved 4 ∧ under.trunk.flight 16 = .reserved 4 ∧
        (loading 2).trunk.flight 12 = .loaded 4) ∧
      reserved.openLot (.cell 3) = some (4, lotIn (.cell 3) 3 .reserved) ∧
      (lotIn (.cell 3) 3 .loading).declared = 50 ∧ (lotIn (.cell 3) 3 .loading).notify = true := by
  unfold State.roomAt
  decide +kernel

/-- An image held for a read. -/
def imageOf (code : Byte) (fields content : List Byte) : State :=
  State.reset.withLinks { State.reset.links with image := some ⟨code, fields, content⟩ }

/-- Each read's later segment: its image held, the last segment of the count and the first beyond it;
READ_PORTS with its clear flag set, clear, and no flag. -/
theorem witness_ReadsServeSegments_each :
    (∀ x ∈ [((0x70 : Byte), u8 7), (0x71, u8 31), (0x72, u8 63 ++ u8 40), (0x73, []), (0x74, []),
        (0x75, []), (0x76, u8 63 ++ u8 2), (0x76, u8 63 ++ u8 3 ++ u16 511), (0x77, u8 0 ++ u8 15),
        (0x77, u8 1 ++ u8 127), (0x78, [])],
      (imageOf x.1 x.2 (List.replicate 44 0)).roomAt stationTx ∧
        (imageOf x.1 x.2 (List.replicate 44 0)).links.image =
          some ⟨x.1, x.2, List.replicate 44 0⟩) ∧
      ((0 < 1 ∧ 1 < (44 + 42) / 43 ∧ (44 + 42) / 43 ≤ 2) ∧ 63 < State.reset.trunk.config.carry) ∧
      sent (after (.readPorts .station 9 1) (imageOf 0x78 [] (List.replicate 44 0))) 8 =
        some (0x78, .accepted) ∧
      sent (after (.readPorts .station 0 2) (imageOf 0x78 [] (List.replicate 44 0))) 8 =
        some (0x78, .refused .sequence) ∧
      sent (after (.readPorts .station 1 0) State.reset) 8 = some (0x78, .accepted) := by
  unfold State.roomAt
  decide +kernel

end Sys2Proof.Tests
end

/-! PROOFS. The trunk tracker at power-on (R18) and the belt counter's signed drift (R7). -/

namespace Sys2Proof.Machine

/-! ### Power-on -/

/-- POWER_ON keeps only what is no part of the controller's registers: the input lines, the queue
and the free counter. -/
@[simp] theorem exec_powerOn (s : State) :
    exec .powerOn s = .next (State.powerOn s.inputs s.pending s.freeCount) := rfl

@[simp] theorem State.powerOn_trunk (inputs : Inputs) (pending : List Instr) (freeCount : Nat) :
    (State.powerOn inputs pending freeCount).trunk = .powerOn := rfl

@[simp] theorem Trunk.powerOn_map (i : Fin 256) : Trunk.powerOn.map[i] = .untracked :=
  Vector.getElem_replicate i.isLt

@[simp] theorem Trunk.powerOn_overload : Trunk.powerOn.halt.overload = false := rfl

@[simp] theorem Trunk.powerOn_registration : Trunk.powerOn.registration = false := rfl

/-- The REGISTRATION source is the tracker's own flag. -/
theorem alertActive_registration (s : State) :
    s.alertActive .registration = s.trunk.registration := rfl

/-- The OVERLOAD source is the halt reason OVERLOAD. -/
theorem alertActive_overload (s : State) : s.alertActive .overload = s.trunk.halt.overload := rfl

/-- Settles O4: the tracker's values stand in `Trunk.powerOn`, and of the two alert sources each
follows a part of the tracker that is clear there. -/
theorem powerOnTrunk : Obligations.PowerOnTrunk := by
  intro s
  have hreg : (State.powerOn s.inputs s.pending s.freeCount).alertActive .registration = false := by
    rw [alertActive_registration, State.powerOn_trunk, Trunk.powerOn_registration]
  have hover : (State.powerOn s.inputs s.pending s.freeCount).alertActive .overload = false := by
    rw [alertActive_overload, State.powerOn_trunk, Trunk.powerOn_overload]
  exact ⟨_, exec_powerOn s, Trunk.powerOn_map, rfl, rfl, rfl, rfl, rfl, rfl, rfl, rfl, hreg, hover⟩

/-! ### The signed drift -/

section
variable {t : Trunk}

/-- A counter in the lower half is a drift of its own value (R7). -/
theorem Trunk.drift_of_le_half (h : t.belt ≤ t.config.beltLength / 2) : t.drift = t.belt :=
  if_pos h

/-- A counter above the half is a negative drift (R7). -/
theorem Trunk.drift_of_half_lt (h : t.config.beltLength / 2 < t.belt) :
    t.drift = (t.belt : Int) - t.config.beltLength :=
  if_neg (Nat.not_le_of_lt h)

/-- The range of the drift, (−N_belt/2, N_belt/2], written without the halving (R7). -/
theorem Trunk.drift_range (h : t.belt < t.config.beltLength) :
    -(t.config.beltLength : Int) < 2 * t.drift ∧ 2 * t.drift ≤ t.config.beltLength := by
  rcases Nat.lt_or_ge (t.config.beltLength / 2) t.belt with high | low
  · rw [Trunk.drift_of_half_lt high]
    omega
  · rw [Trunk.drift_of_le_half low]
    omega
end

/-- Settles O12: the two halves of the counter, and the range both stay in. -/
theorem driftIsSigned : Obligations.DriftIsSigned := fun _ h =>
  ⟨Trunk.drift_of_le_half, Trunk.drift_of_half_lt, Trunk.drift_range h⟩

end Sys2Proof.Machine
